-- ==== Sys2Proof/Word.lean ====
section
/-! DEFINITION. The word types of the rpmcontrol CORE: instants, durations, Q8.8 values and analog codes
(spec 00_scope.md R11, 30_encoding.md R89 to R91, 40_primitives.md R110, R117). -/

namespace Sys2Proof

/-- One byte (`U8`, R11). -/
abbrev Byte := BitVec 8

/-- One 16-bit word (`U16`, R11); an event word (R81) is one. -/
abbrev Word := BitVec 16

/-- The short instant, a tick count modulo 2^8 (R90, R110). -/
abbrev Instant8 := Byte

/-- The short duration (R90, R110). -/
abbrev Duration8 := Byte

/-- The large instant, a tick count modulo 2^16 (R90, R110). -/
abbrev Instant16 := Word

/-- The large duration (R90, R110). -/
abbrev Duration16 := Word

/-- A signed Q8.8 value: the raw 16 bits, read as a two's-complement integer by `toInt` (R89, R117). -/
abbrev Q := BitVec 16

/-- The raw 10-bit analog result code (R91). -/
abbrev AdcCode := BitVec 10

end Sys2Proof
end

