-- ==== Sys2Proof/Config.lean ====
section
/-! DEFINITION. The configuration record `Cfg` (spec 00_scope.md R8) and the parameter set `TVCFG` of
95_test_vectors.md (R10). The constraints of R8 and R9 are in WellFormed.lean. -/

namespace Sys2Proof

/-- One knot `(x_i, y_i)` of a piecewise-linear curve (R125). -/
structure Knot where
  x : Q
  y : Q
deriving DecidableEq, Repr

/-- A curve: its knots in rising order of `x` (R125). -/
abbrev Curve := List Knot

/-- The retrigger count as a function of the offset (R192, R193), as plain data. `reference` is the form of R193;
`steps` gives one more pulse for each listed limit that lies above the distance to the nearer half-wave edge, and
so holds every function that meets the two laws of R192 (DESIGN CHOICE, entry 3). -/
inductive PulseCountFn where
  | reference (edgeZone pulseExtraMax : Nat)
  | steps (limits : List Nat)
deriving DecidableEq, Repr

/-- The conversion from average duration to speed (R177), as plain data. `reciprocal` is the default form with
`SPEED_NUM`; `tabulated` lists the values for the durations 0, 1, 2, ..., zero beyond the list, and so holds every
function of the average alone (DESIGN CHOICE, entry 4). -/
inductive SpeedFn where
  | reciprocal (speedNum : Nat)
  | tabulated (values : List Q)
deriving DecidableEq, Repr

/-- The parameters of one temperature channel: `TEMP_CURVE[k]`, `TEMP_LP_DIV[k]`, `TEMP_HI[k]`, `TEMP_LO[k]` (R8). -/
structure TempCfg where
  curve : Curve
  lpDiv : Nat
  hi : Q
  lo : Q
deriving DecidableEq, Repr

/-- The configuration record (R8): every numeric constant is a field. It is fixed before reset and no step writes it
(R20, R38, R372). The parameters that have a value in the document default to it, and an admitted configuration keeps
it (`Cfg.sourceValuesOk`); those that are a width or a length are also the widths and lengths of the cells' types
(entry 14). -/
structure Cfg where
  /-- `SHORT_BITS`: the width of `Instant8`, `Duration8`. -/
  shortBits : Nat := 8
  /-- `LARGE_BITS`: the width of `Instant16`, `Duration16`. -/
  largeBits : Nat := 16
  /-- `Q_BITS`: the width of `Q`. -/
  qBits : Nat := 16
  /-- `Q_FRAC`: the fractional bits of `Q`. -/
  qFrac : Nat := 8
  /-- `Q_WIDE_BITS`: the multiply and divide intermediate, which the exact results of R121, R122 stand for. -/
  qWideBits : Nat := 24
  /-- `SE_WINDOW`: the slots of `se_win`. -/
  seWindow : Nat := 4
  /-- `CONF_THRESHOLD` (R168, R176). -/
  confThreshold : Nat := 4
  /-- `SP_HIST_LEN`: the slots of `sf_hist`. -/
  spHistLen : Nat := 9
  /-- `CADENCE_MISS_FACTOR` (R244). -/
  cadenceMissFactor : Nat := 5
  /-- `PULSE_MIN`: the least retrigger pulse count (R192). -/
  pulseMin : Nat := 1
  /-- `ADC_BITS`: the width of an analog code. -/
  adcBits : Nat := 10
  /-- `ADC_CHANNELS`: the channels of `adc`. -/
  adcChannels : Nat := 5
  /-- `F_TICK`, read by no rule (R8, R390). -/
  fTick : Nat
  /-- `HALF_WAVE_DUR` (R155). -/
  halfWaveDur : Duration16
  /-- `MAINS_MIN_SPACING` (R154). -/
  mainsMinSpacing : Duration16
  /-- `CTRL_OFFSET` (R283). -/
  ctrlOffset : Duration16
  /-- `MAX_OFFSET` (R189). -/
  maxOffset : Duration16
  /-- `PULSE_WIDTH` (R197). -/
  pulseWidth : Duration8
  /-- `SHORT_ARM_MAX` (R191). -/
  shortArmMax : Duration8
  /-- `pulse_count` (R192, R193). -/
  pulseCountFn : PulseCountFn
  /-- `dur_to_speed`, with `SPEED_NUM` (R177). -/
  speedFn : SpeedFn
  /-- `SPEED_LP_DIV` (R173). -/
  speedLpDiv : Nat
  /-- `CONF_MAX` (R171). -/
  confMax : Nat
  /-- `SETPOINT_CURVE` (R286). -/
  setpointCurve : Curve
  /-- `SP_RUN_THRESHOLD` (R287). -/
  spRunThreshold : Q
  /-- `SP2SPEED_CURVE` (R218). -/
  sp2SpeedCurve : Curve
  /-- `KP` (R214). -/
  kp : Q
  /-- `KI` (R215). -/
  ki : Q
  /-- `KD` (R216). -/
  kd : Q
  /-- `ILIM_POS_CURVE` (R215). -/
  ilimPosCurve : Curve
  /-- `ILIM_NEG_CURVE` (R215). -/
  ilimNegCurve : Curve
  /-- `TRIG_CURVE` (R220). -/
  trigCurve : Curve
  /-- The two temperature channels: 0 motor winding, 1 die (R225). -/
  temp : Vector TempCfg 2
  /-- `TEMP_IN_SAFETY_PATH`, by default true (R8, R289). -/
  tempInSafetyPath : Bool := true
  /-- `SAFETY_PERIOD` (R243). -/
  safetyPeriod : Duration16
  /-- `ZC_TIMEOUT` (R242). -/
  zcTimeout : Duration16
  /-- `DB_INC` (R129). -/
  dbInc : Nat
  /-- `DB_DEC` (R129). -/
  dbDec : Nat
  /-- `DB_LIMIT` (R129). -/
  dbLimit : Nat
  /-- `SPEED_HARD_LIMIT` (R247). -/
  speedHardLimit : Q
  /-- `DEV_TOL` (R248). -/
  devTol : Q
  /-- `DEV_ACTIVATION` (R248). -/
  devActivation : Q
  /-- `SP_STABLE_TOL` (R246). -/
  spStableTol : Q
  /-- `POST_SETTLE` (R266). -/
  postSettle : Duration16
  /-- `POST_ASSERT` (R266). -/
  postAssert : Duration16
  /-- `POST_TRIAC_OFFSET` (R271). -/
  postTriacOffset : Duration16
  /-- `STARTUP_DELAY` (R284). -/
  startupDelay : Duration16
  /-- `WDT_TIMEOUT` in ticks (R342). -/
  wdtTimeout : Nat
  /-- `IRQ_LATENCY_MAX`, read by no rule (R339). -/
  irqLatencyMax : Nat
deriving DecidableEq, Repr

/-- `TVCFG`, the parameter set of the spec's own vectors (R10, 95_test_vectors.md). Its values stand for nothing in
the product. DESIGN CHOICE (entry 2): `State.reset` carries it, because a state must hold some configuration;
`F_TICK` and `IRQ_LATENCY_MAX`, which `TVCFG` does not list and no rule reads, are 0. -/
def Config.tvcfg : Cfg where
  fTick := 0
  halfWaveDur := 200
  mainsMinSpacing := 150
  ctrlOffset := 100
  maxOffset := 180
  pulseWidth := 2
  shortArmMax := 127
  pulseCountFn := .reference 40 3
  speedFn := .reciprocal 256000
  speedLpDiv := 4
  confMax := 4
  setpointCurve := [⟨0, 0⟩, ⟨1023, 10230⟩]
  spRunThreshold := 256
  sp2SpeedCurve := [⟨0, 0⟩, ⟨10240, 5120⟩]
  kp := 256
  ki := 64
  kd := 128
  ilimPosCurve := [⟨0, 0⟩, ⟨2560, 2560⟩]
  ilimNegCurve := [⟨0, 0⟩, ⟨2560, -2560⟩]
  trigCurve := [⟨0, 190⟩, ⟨5120, 10⟩]
  temp := #v[
    { curve := [⟨100, 30720⟩, ⟨900, 0⟩], lpDiv := 2, hi := 23040, lo := 20480 },
    { curve := [⟨0, 0⟩, ⟨1023, 20460⟩], lpDiv := 2, hi := 25600, lo := 23040 }]
  tempInSafetyPath := true
  safetyPeriod := 1000
  zcTimeout := 1000
  dbInc := 10
  dbDec := 1
  dbLimit := 30
  speedHardLimit := 25600
  devTol := 1280
  devActivation := 512
  spStableTol := 256
  postSettle := 300
  postAssert := 300
  postTriacOffset := 100
  startupDelay := 500
  wdtTimeout := 500
  irqLatencyMax := 0

end Sys2Proof
end

