-- ==== Sys2Proof/Machine/State.lean ====
section
/-! DEFINITION. The state record (spec 10_state.md R20 to R34), its reset value (R41, 70_reset_and_hazards.md R370),
and the reasons a step can stop. Cells are grouped as R21 to R34 group them. -/

namespace Sys2Proof.Machine

/-- `SystemState` (R26, R92). -/
inductive SystemState where
  | startup
  | selfTest
  | syncing
  | running
deriving DecidableEq, Repr

/-- `MainsPhase` (R27, R92). -/
inductive MainsPhase where
  | unsynchronized
  | positiveHalfwave
  | negativeHalfwave
deriving DecidableEq, Repr

/-- `PostStage` (R34, R92). -/
inductive PostStage where
  | checkIdle
  | checkSecondaryPath
  | checkPrimaryPath
  | error
  | done
deriving DecidableEq, Repr

/-- `PulsePhase`: the action the next pulse-timer interrupt performs (R30, R92). -/
inductive PulsePhase where
  | gateClear
  | gateSet
deriving DecidableEq, Repr

/-- Clock cells (R21). -/
structure Clock where
  /-- `clk_tcnt`. -/
  tcnt : Byte
  /-- `clk_tov`. -/
  tov : Bool
  /-- `clk_hi`. -/
  hi : Byte
deriving DecidableEq, Repr

/-- Watchdog and halt cells (R22). -/
structure Watchdog where
  /-- `wdt_count`. -/
  count : Nat
  /-- `ml_halted`. -/
  halted : Bool
deriving DecidableEq, Repr

/-- Input cells (R23). -/
structure Inputs where
  /-- `in_mains`. -/
  mains : Bool
  /-- `in_rtfault`. -/
  rtfault : Bool
  /-- `adc[0..4]`, numbered as R94: setpoint, shunt A, shunt B, motor temperature, die temperature. -/
  adc : Vector (Option AdcCode) 5
  /-- `afe_failure`. -/
  afeFailure : Bool
deriving DecidableEq, Repr

/-- Interrupt pending bits (R24). -/
structure Pending where
  /-- `tacho_irq_pending`. -/
  tacho : Bool
  /-- `pt_irq_pending`. -/
  pt : Bool
deriving DecidableEq, Repr

/-- Main-loop cells (R25). -/
structure MainLoop where
  /-- `ml_pc`. -/
  pc : Fin 7
  /-- `ml_last_start`. -/
  lastStart : Instant16
  /-- `diag_loop_runtime`. -/
  diagLoopRuntime : Duration16
deriving DecidableEq, Repr

/-- System cells (R26). -/
structure SystemCells where
  /-- `sys_state`. -/
  state : SystemState
  /-- `sys_t0`. -/
  t0 : Instant16
  /-- `primary_shutoff`. -/
  primaryShutoff : Bool
  /-- `secondary_shutoff`. -/
  secondaryShutoff : Bool
  /-- `hk_armed`. -/
  hkArmed : Bool
deriving DecidableEq, Repr

/-- MainsSync cells (R27). -/
structure MainsSync where
  /-- `ms_phase`. -/
  phase : MainsPhase
  /-- `ms_ref`. -/
  ref : Instant16
  /-- `ms_prev_pin`. -/
  prevPin : Bool
  /-- `ms_transition`. -/
  transition : Bool
deriving DecidableEq, Repr

/-- The tachometer capture record (R28). -/
structure Capture where
  /-- `cap_new`. -/
  new : Bool
  /-- `cap_ts`. -/
  ts : Instant16
deriving DecidableEq, Repr

/-- SpeedEstimator cells (R28). -/
structure SpeedEstimator where
  /-- `se_last_edge`. -/
  lastEdge : Instant16
  /-- `se_win[0..3]`. -/
  win : Vector Duration16 4
  /-- `se_widx`. -/
  widx : Fin 4
  /-- `se_conf`. -/
  conf : Nat
  /-- `se_filt`. -/
  filt : Q
deriving DecidableEq, Repr

/-- Output pins (R29). -/
structure Pins where
  /-- `out_gate_n`: 0 is gate set. -/
  gateN : Bool
  /-- `out_sec_n`: 0 is running. -/
  secN : Bool
deriving DecidableEq, Repr

/-- The TriacScheduler's main-loop cells (R30). -/
structure Trigger where
  /-- `tr_pending`. -/
  pending : Bool
  /-- `tr_offset`. -/
  offset : Duration16
deriving DecidableEq, Repr

/-- The pulse-timer cells the TriacScheduler shares with its interrupt (R30); `pt_irq_pending` is in `Pending`. -/
structure PulseTimer where
  /-- `pt_enabled`. -/
  enabled : Bool
  /-- `pt_ocr`. -/
  ocr : Instant8
  /-- `pt_phase`. -/
  phase : PulsePhase
  /-- `pt_remaining`. -/
  remaining : Byte
deriving DecidableEq, Repr

/-- Controller cells (R31). -/
structure Controller where
  /-- `ctl_i`. -/
  i : Q
  /-- `ctl_prev_e`. -/
  prevE : Q
  /-- `ctl_out`. -/
  out : Q
deriving DecidableEq, Repr

/-- TempMonitor cells (R32): index 0 the motor winding, index 1 the die. -/
structure TempMonitor where
  /-- `tm_filt[0..1]`. -/
  filt : Vector Q 2
  /-- `tm_shutoff[0..1]`. -/
  shutoff : Vector Bool 2
deriving DecidableEq, Repr

/-- SafetyMonitor cells (R33). -/
structure SafetyMonitor where
  /-- `sf_count`. -/
  count : Nat
  /-- `sf_last_check`. -/
  lastCheck : Instant16
  /-- `sf_last_zc`. -/
  lastZc : Instant16
  /-- `sf_hist[0..8]`. -/
  hist : Vector Q 9
  /-- `sf_hidx`. -/
  hidx : Fin 9
deriving DecidableEq, Repr

/-- PowerOnSelfTest cells (R34). -/
structure SelfTest where
  /-- `post_stage`. -/
  stage : PostStage
  /-- `post_t0`. -/
  t0 : Instant16
deriving DecidableEq, Repr

/-- The state of the machine: the cells of R20, the configuration (R8, R372) and the steps still to come. -/
structure State where
  clk : Clock
  wd : Watchdog
  inp : Inputs
  irq : Pending
  ml : MainLoop
  sys : SystemCells
  ms : MainsSync
  cap : Capture
  se : SpeedEstimator
  out : Pins
  tr : Trigger
  pt : PulseTimer
  ctl : Controller
  tm : TempMonitor
  sf : SafetyMonitor
  post : SelfTest
  /-- `Cfg`, read-only: not a cell, kept by every step and every reset (R20, R372; entry 2). -/
  cfg : Cfg
  /-- The model's own field: the event words of the steps still to come (R80, R88; entry 1). -/
  trace : List Word
deriving DecidableEq, Repr

/-- The reset value of every cell (R20, R41, R370), both input levels 0 (R316), over a configuration, with no step
to come. -/
def State.resetWith (c : Cfg) : State where
  clk := { tcnt := 0, tov := false, hi := 0 }
  wd := { count := 0, halted := false }
  inp := { mains := false, rtfault := false, adc := #v[none, none, none, none, none], afeFailure := false }
  irq := { tacho := false, pt := false }
  ml := { pc := 0, lastStart := 0, diagLoopRuntime := 0 }
  sys := { state := .startup, t0 := 0, primaryShutoff := true, secondaryShutoff := true, hkArmed := false }
  ms := { phase := .unsynchronized, ref := 0, prevPin := true, transition := false }
  cap := { new := false, ts := 0 }
  se := { lastEdge := 0, win := #v[0, 0, 0, 0], widx := 0, conf := 0, filt := 0 }
  out := { gateN := true, secN := true }
  tr := { pending := false, offset := 0xFFFF }
  pt := { enabled := false, ocr := 0, phase := .gateSet, remaining := 0 }
  ctl := { i := 0, prevE := 0, out := 0 }
  tm := { filt := #v[0, 0], shutoff := #v[false, false] }
  sf := { count := 0, lastCheck := 0, lastZc := 0, hist := #v[0, 0, 0, 0, 0, 0, 0, 0, 0], hidx := 0 }
  post := { stage := .checkIdle, t0 := 0 }
  cfg := c
  trace := []

/-- The machine right after reset (R41, R316). The configuration it carries is `TVCFG` (DESIGN CHOICE, entry 2). -/
def State.reset : State := State.resetWith Config.tvcfg

/-- The reasons a step stops with a fault: none. No operation of this block traps, and a fault condition transfers
no control (R330, R331); safe, since nothing is claimed of a stop that cannot happen. -/
inductive Fault where
deriving DecidableEq, Repr

/-- The reasons a step is refused. -/
inductive Refusal where
  /-- An operation without a meaning: raised by `exec` only, in an arm not yet written; no arm raises it. Safe. -/
  | notModelled (mnemonic : String)
  /-- The word at the head of the trace is illegal (R85): raised by `step`. Safe: no run holds such a word. -/
  | illegalWord
  /-- The operation's enabling condition is false (R86): raised by the meanings. Safe: no run takes such a step. -/
  | stepDisabled
  /-- The configuration breaks a constraint of R9 or R177: raised by `step`. Safe: no rule gives it a meaning. -/
  | invalidConfig
  /-- The trace holds no further step: raised by `step`. Safe: the machine takes no step that no agent takes. -/
  | traceEnded
deriving DecidableEq, Repr

end Sys2Proof.Machine
end

