-- ==== Sys2Proof/Syntax.lean ====
section
/-! DEFINITION. The operations of the machine: one constructor per row of spec/opcode_table.json, the 18 event words
of format E (30_encoding.md R81, R84) and the 7 main-loop phases of format P (R82); their agents (00_scope.md R6). -/

namespace Sys2Proof

/-- The agents that take steps (R6). -/
inductive Agent where
  | env
  | timebase
  | irq
  | main
  | watchdog
deriving DecidableEq, Repr

/-- The operations. Operands are already the fields R83 reads from `arg`. -/
inductive Instr where
  /-- `TICK` (R310). -/
  | tick
  /-- `ENV_MAINS level` (R311). -/
  | envMains (level : Bool)
  /-- `ENV_TACHO` (R312). -/
  | envTacho
  /-- `ENV_ADC_SETPOINT code` (R313). -/
  | envAdcSetpoint (code : AdcCode)
  /-- `ENV_ADC_SHUNT0 code` (R313). -/
  | envAdcShunt0 (code : AdcCode)
  /-- `ENV_ADC_SHUNT1 code` (R313). -/
  | envAdcShunt1 (code : AdcCode)
  /-- `ENV_ADC_MOTTEMP code` (R313). -/
  | envAdcMottemp (code : AdcCode)
  /-- `ENV_ADC_DIETEMP code` (R313). -/
  | envAdcDietemp (code : AdcCode)
  /-- `ENV_AFE_FAIL` (R314). -/
  | envAfeFail
  /-- `ENV_RTFAULT level` (R315). -/
  | envRtfault (level : Bool)
  /-- `IRQ_MAINS` (R337). -/
  | irqMains
  /-- `IRQ_TACHO` (R166). -/
  | irqTacho
  /-- `IRQ_PULSE` (R197). -/
  | irqPulse
  /-- `IRQ_UART` (R338). -/
  | irqUart
  /-- `MAIN_STEP` (R281). -/
  | mainStep
  /-- `WDT_RESET` (R343). -/
  | wdtReset
  /-- `POR` (R316). -/
  | por
  /-- `HALT` (R341). -/
  | halt
  /-- Phase `LOOPTIME` (R282). -/
  | looptime
  /-- Phase `MAINS` (R158). -/
  | mains
  /-- Phase `SPEED` (R168). -/
  | speed
  /-- Phase `DISPATCH` (R283). -/
  | dispatch
  /-- Phase `TRIAC` (R186). -/
  | triac
  /-- Phase `OUTPUT` (R290). -/
  | output
  /-- Phase `WDT` (R291). -/
  | wdt
deriving DecidableEq, Repr

/-- The agent that takes the operation's step (R6, the `agent` column of R84). -/
@[reducible] def Instr.agent : Instr → Agent
  | .tick => .timebase
  | .envMains _ => .env
  | .envTacho => .env
  | .envAdcSetpoint _ => .env
  | .envAdcShunt0 _ => .env
  | .envAdcShunt1 _ => .env
  | .envAdcMottemp _ => .env
  | .envAdcDietemp _ => .env
  | .envAfeFail => .env
  | .envRtfault _ => .env
  | .irqMains => .irq
  | .irqTacho => .irq
  | .irqPulse => .irq
  | .irqUart => .irq
  | .mainStep => .main
  | .wdtReset => .watchdog
  | .por => .env
  | .halt => .env
  | .looptime => .main
  | .mains => .main
  | .speed => .main
  | .dispatch => .main
  | .triac => .main
  | .output => .main
  | .wdt => .main

/-- The phase whose format-P code is `pc`, the value `ml_pc` holds (R82, R280). -/
def Instr.phaseAt (pc : Fin 7) : Instr :=
  match pc with
  | 0 => .looptime
  | 1 => .mains
  | 2 => .speed
  | 3 => .dispatch
  | 4 => .triac
  | 5 => .output
  | 6 => .wdt

end Sys2Proof
end

