-- ==== Sys2Proof/Machine/Contexts.lean ====
section
/-! DEFINITION. The contexts and the accesses each has (spec 20_memory.md R62 to R66, 60_exceptions.md R344, R345). A
step's body is a `Program` of its agent's context, built from the closed list `Access` of typed accesses, so an access
that the context does not have cannot be written: it has no constructor of the type. `perform` takes the body of an
operation only in the context of that operation's agent. -/

namespace Sys2Proof.Machine

/-- The contexts: one for each agent (R62), and MAIN's critical section, `group` (R63, R66). -/
inductive Context where
  | env
  | timebase
  | irq
  | main
  | group
  | watchdog
deriving DecidableEq, Repr

/-- The context an agent's step runs in: "the token is the identity of the agent taking the step" (R62). -/
@[reducible] def contextOf : Agent → Context
  | .env => .env
  | .timebase => .timebase
  | .irq => .irq
  | .main => .main
  | .watchdog => .watchdog

/-- The critical-section token (R63, R345): the interrupt context holds it always, MAIN inside an `atomically` group
alone. In every other context the type is empty. -/
inductive CsToken : Context → Type where
  | irq : CsToken .irq
  | group : CsToken .group

/-- The cells marked `SHARED` (R20). -/
structure SharedCells where
  /-- `clk_tov`. -/
  tov : Bool
  /-- `clk_hi`. -/
  hi : Byte
  /-- `pt_irq_pending`. -/
  ptIrq : Bool
  /-- `out_gate_n`. -/
  gateN : Bool
  cap : Capture
  pt : PulseTimer
deriving DecidableEq, Repr

/-- The cells marked `MAIN` (R20). -/
structure MainCells where
  ml : MainLoop
  sys : SystemCells
  ms : MainsSync
  se : SpeedEstimator
  /-- `out_sec_n`. -/
  secN : Bool
  tr : Trigger
  ctl : Controller
  tm : TempMonitor
  sf : SafetyMonitor
  post : SelfTest
deriving DecidableEq, Repr

/-- What a MAIN step reads: the `MAIN` cells, the inputs its rules name (R242, R249, R318), the configuration. -/
structure MainView extends MainCells where
  cfg : Cfg
  adc : Vector (Option AdcCode) 5
  afeFailure : Bool
  /-- `in_rtfault`. -/
  rtfault : Bool
deriving DecidableEq, Repr

/-- The cells that `TICK` writes (R20, R310). -/
structure TickCells where
  /-- `clk_tcnt`. -/
  tcnt : Byte
  /-- `clk_tov`. -/
  tov : Bool
  /-- `pt_irq_pending`. -/
  ptIrq : Bool
  /-- `wdt_count`. -/
  wdtCount : Nat
deriving DecidableEq, Repr

/-- What `TICK` reads: the cells it writes, and the compare cells (R310). -/
structure TickView extends TickCells where
  /-- `pt_enabled`. -/
  compareEnabled : Bool
  /-- `pt_ocr`. -/
  compareValue : Instant8
deriving DecidableEq, Repr

/-- The accesses, each in the contexts R20 and R63 give it, with the type of what it answers. There are no others. -/
inductive Access : Context → Type → Type where
  /-- `now_short()`, lock-free in every context (R64, R115). -/
  | nowShort {c : Context} : Access c Instant8
  /-- The configuration, which no step writes (R20). -/
  | config {c : Context} : Access c Cfg
  | readShared {c : Context} (tok : CsToken c) : Access c SharedCells
  | writeShared {c : Context} (tok : CsToken c) (v : SharedCells) : Access c Unit
  /-- `PinGet(in_mains)`, which R151 reads in the group of `MAINS`. -/
  | mainsPin : Access .group Bool
  | readMain : Access .main MainView
  | writeMain (v : MainCells) : Access .main Unit
  /-- `wdt_count <- 0` (R291). -/
  | poke : Access .main Unit
  /-- `tacho_irq_pending <- 0` (R166). -/
  | clearTacho : Access .irq Unit
  | readTick : Access .timebase TickView
  | writeTick (v : TickCells) : Access .timebase Unit
  | readInputs : Access .env Inputs
  | writeInputs (v : Inputs) : Access .env Unit
  /-- `tacho_irq_pending <- 1` (R312). -/
  | requestTacho : Access .env Unit
  /-- `ml_halted <- 1` (R341). -/
  | halt : Access .env Unit
  /-- The reset of every cell by ENV (R316). -/
  | powerOnReset : Access .env Unit
  /-- The reset of every cell by WATCHDOG (R343). -/
  | watchdogReset : Access .watchdog Unit

/-- What a step in context `c` does, with its answer: accesses in order. Only MAIN has `atomically`, and only it hands
out the group's token (R12, R63). -/
inductive Program : Context → Type → Type 1 where
  | pure {c : Context} {α : Type} (a : α) : Program c α
  | access {c : Context} {α : Type} (a : Access c α) : Program c α
  | bind {c : Context} {α β : Type} (p : Program c β) (k : β → Program c α) : Program c α
  | atomically {α : Type} (g : CsToken .group → Program .group α) : Program .main α

/-- The reset of both reset causes (R41, R371, R372): every cell takes its reset value but the two input levels; the
configuration is kept (R372), and so are the steps still to come, which are no cell (entries 1 and 12). -/
def resetCells (s : State) : State :=
  { State.resetWith s.cfg with
    inp := { mains := s.inp.mains, rtfault := s.inp.rtfault,
             adc := #v[none, none, none, none, none], afeFailure := false }
    trace := s.trace }

/-- The `SHARED` cells of the state (R20). -/
def sharedCells (s : State) : SharedCells :=
  { tov := s.clk.tov, hi := s.clk.hi, ptIrq := s.irq.pt, gateN := s.out.gateN, cap := s.cap, pt := s.pt }

/-- The state with other `SHARED` cells (R20). -/
def putShared (c : SharedCells) (s : State) : State :=
  { s with clk := { s.clk with tov := c.tov, hi := c.hi }, irq := { s.irq with pt := c.ptIrq },
           out := { s.out with gateN := c.gateN }, cap := c.cap, pt := c.pt }

/-- The `MAIN` cells of the state (R20). -/
def mainCells (s : State) : MainCells :=
  { ml := s.ml, sys := s.sys, ms := s.ms, se := s.se, secN := s.out.secN, tr := s.tr, ctl := s.ctl, tm := s.tm,
    sf := s.sf, post := s.post }

/-- The state with other `MAIN` cells (R20). -/
def putMain (c : MainCells) (s : State) : State :=
  { s with ml := c.ml, sys := c.sys, ms := c.ms, se := c.se, out := { s.out with secN := c.secN }, tr := c.tr,
           ctl := c.ctl, tm := c.tm, sf := c.sf, post := c.post }

/-- What a MAIN step reads of the state. -/
def mainView (s : State) : MainView :=
  { mainCells s with cfg := s.cfg, adc := s.inp.adc, afeFailure := s.inp.afeFailure, rtfault := s.inp.rtfault }

/-- What `TICK` reads of the state. -/
def tickView (s : State) : TickView :=
  { tcnt := s.clk.tcnt, tov := s.clk.tov, ptIrq := s.irq.pt, wdtCount := s.wd.count,
    compareEnabled := s.pt.enabled, compareValue := s.pt.ocr }

/-- The state with other cells of `TICK`. -/
def putTick (v : TickCells) (s : State) : State :=
  { s with clk := { s.clk with tcnt := v.tcnt, tov := v.tov }, irq := { s.irq with pt := v.ptIrq },
           wd := { s.wd with count := v.wdtCount } }

/-- An access on the state: its answer, and the state after it. -/
def performAccess {c : Context} {α : Type} (a : Access c α) (s : State) : α × State :=
  match a with
  | .nowShort => (s.clk.tcnt, s)
  | .config => (s.cfg, s)
  | .readShared _ => (sharedCells s, s)
  | .writeShared _ v => ((), putShared v s)
  | .mainsPin => (s.inp.mains, s)
  | .readMain => (mainView s, s)
  | .writeMain v => ((), putMain v s)
  | .poke => ((), { s with wd := { s.wd with count := 0 } })
  | .clearTacho => ((), { s with irq := { s.irq with tacho := false } })
  | .readTick => (tickView s, s)
  | .writeTick v => ((), putTick v s)
  | .readInputs => (s.inp, s)
  | .writeInputs v => ((), { s with inp := v })
  | .requestTacho => ((), { s with irq := { s.irq with tacho := true } })
  | .halt => ((), { s with wd := { s.wd with halted := true } })
  | .powerOnReset => ((), resetCells s)
  | .watchdogReset => ((), resetCells s)

/-- A program on the state: its answer, and the state after it. An `atomically` group is part of the step (R7, R65). -/
def runProgram {c : Context} {α : Type} : Program c α → State → α × State
  | .pure a, s => (a, s)
  | .access a, s => performAccess a s
  | .bind p k, s => runProgram (k (runProgram p s).1) (runProgram p s).2
  | .atomically g, s => runProgram (g .group) s

/-- The state after a program. -/
def after {c : Context} {α : Type} (p : Program c α) (s : State) : State := (runProgram p s).2

/-- The body of an operation's step: a program of its agent's context (R62, R63). -/
abbrev Body (i : Instr) : Type 1 := Program (contextOf i.agent) Unit

/-- The step of an operation: its body, performed. -/
def perform (i : Instr) (body : Body i) (s : State) : State := after body s

/-- One program after another. -/
def andThen {c : Context} {α : Type} (p : Program c Unit) (q : Program c α) : Program c α := p.bind fun _ => q

/-- A read and a write of the `SHARED` cells, with the critical-section token (R63, R69). -/
def updateShared {c : Context} (tok : CsToken c) (f : SharedCells → SharedCells) : Program c Unit :=
  (Program.access (.readShared tok)).bind fun v => .access (.writeShared tok (f v))

/-- The `MAIN` cells as a MAIN step reads them. -/
def readMain : Program .main MainView := .access .readMain

/-- A read and a write of the `MAIN` cells (R63, R69). -/
def updateMain (f : MainView → MainView) : Program .main Unit :=
  readMain.bind fun v => .access (.writeMain (f v).toMainCells)

/-- A read and a write of the inputs (R311 to R315). -/
def updateInputs (f : Inputs → Inputs) : Program .env Unit :=
  (Program.access .readInputs).bind fun v => .access (.writeInputs (f v))

end Sys2Proof.Machine
end

