-- ==== Sys2Proof/Machine/Operands.lean ====
section
/-! DEFINITION. The arithmetic of spec 40_primitives.md on plain values: modular instants (R111 to R113), Q8.8
fixed point (R117 to R124), curves (R125 to R127), the low-pass filter (R128) and the debounce counter (R129, R130);
with the configuration functions `pulse_count` (43_triac_scheduler.md R192, R193) and `dur_to_speed`
(42_speed_estimator.md R177). -/

namespace Sys2Proof.Machine

/-- `i_add_N` (R111). -/
def iAdd {n : Nat} (t d : BitVec n) : BitVec n := t + d

/-- `i_sub_N` (R112). -/
def iSub {n : Nat} (a b : BitVec n) : BitVec n := a - b

/-- `sdelta_N`: the wrapped difference read as a signed number (R113). -/
def sdelta {n : Nat} (a b : BitVec n) : Int := (iSub a b).toInt

/-- `i_ge_N` (R113). -/
def iGe {n : Nat} (a b : BitVec n) : Bool := decide (0 ≤ sdelta a b)

/-- `i_gt_N` (R113). -/
def iGt {n : Nat} (a b : BitVec n) : Bool := decide (0 < sdelta a b)

/-- `i_lt_N` (R113). -/
def iLt {n : Nat} (a b : BitVec n) : Bool := !iGe a b

/-- `Q_MIN` (R117). -/
def qMin : Q := BitVec.ofInt 16 (-32768)

/-- `Q_MAX` (R117). -/
def qMax : Q := BitVec.ofInt 16 32767

/-- `sat16` (R118). -/
def sat16 (v : Int) : Q := BitVec.ofInt 16 (max (-32768) (min 32767 v))

/-- `qadd` (R119). -/
def qadd (a b : Q) : Q := sat16 (a.toInt + b.toInt)

/-- `qsub` (R119). -/
def qsub (a b : Q) : Q := sat16 (a.toInt - b.toInt)

/-- `qneg` (R120). -/
def qneg (a : Q) : Q := sat16 (-a.toInt)

/-- `qabs` (R120). -/
def qabs (a : Q) : Q := sat16 (a.toInt.natAbs : Int)

/-- `qmul`: exact product, floor shift by 8, saturation (R121). -/
def qmul (a b : Q) : Q := sat16 ((a.toInt * b.toInt).fdiv 256)

/-- `qdiv`: truncating quotient, saturation; by the dividend's sign for the divisor 0 (R122). No rule calls it. -/
def qdiv (a b : Q) : Q :=
  if b = 0 then
    if 0 < a.toInt then qMax else if a.toInt < 0 then qMin else 0
  else sat16 ((a.toInt * 256).tdiv b.toInt)

/-- `Q` from an integer (R123). -/
def qOfInt (n : Int) : Q := sat16 (n * 256)

/-- `a < b` on raw signed values (R123). -/
def qLt (a b : Q) : Bool := decide (a.toInt < b.toInt)

/-- The linear part between two knots, exact product and floor division (R126). -/
def interpolate (k l : Knot) (x : Q) : Q :=
  BitVec.ofInt 16
    (k.y.toInt + ((x.toInt - k.x.toInt) * (l.y.toInt - k.y.toInt)).fdiv (l.x.toInt - k.x.toInt))

/-- The evaluation from knot `k` on, for `x` at or past `k`: the first segment whose end lies past `x`, or the last
knot's value (R126). -/
def curveFrom (k : Knot) : List Knot → Q → Q
  | [], _ => k.y
  | l :: rest, x => if x.toInt < l.x.toInt then interpolate k l x else curveFrom l rest x

/-- `curve_eval` (R126). A curve without knots is no configuration (R125); its value is 0 (entry 5). -/
def curveEval (c : Curve) (x : Q) : Q :=
  match c with
  | [] => 0
  | k :: rest => if x.toInt ≤ k.x.toInt then k.y else curveFrom k rest x

/-- `curve_in_range` (R127). -/
def curveInRange (c : Curve) (x : Q) : Bool :=
  match c with
  | [] => false
  | k :: rest => decide (k.x.toInt ≤ x.toInt) && decide (x.toInt ≤ ((k :: rest).getLast (by simp)).x.toInt)

/-- A 10-bit code as the `I16` argument of a curve (R227, R286). -/
def codeToQ (code : AdcCode) : Q := code.zeroExtend 16

/-- `lp_step` (R128). -/
def lpStep (y x : Q) (div : Nat) : Q :=
  BitVec.ofInt 16 (y.toInt + (x.toInt - y.toInt).tdiv (div : Int))

/-- `db_step` on the counter's value (R129). -/
def dbNext (c : Cfg) (count : Nat) (fault sticky : Bool) : Nat :=
  if fault then min (count + c.dbInc) c.dbLimit
  else if sticky && decide (c.dbLimit ≤ count) then count
  else count - c.dbDec

/-- `d(o)`, the distance to the nearer half-wave edge, 0 past the half-wave (R192, R193). -/
def edgeDistance (halfWave o : Nat) : Nat := if halfWave < o then 0 else min o (halfWave - o)

/-- `pulse_count` (R192, R193). -/
def pulseCount (c : Cfg) (o : Nat) : Nat :=
  let d := edgeDistance c.halfWaveDur.toNat o
  match c.pulseCountFn with
  | .reference ez em => if ez ≤ d then 1 else 1 + (ez - d) * em / ez
  | .steps limits => 1 + (limits.filter fun t => decide (d < t)).length

/-- `dur_to_speed` (R177). -/
def durToSpeed (c : Cfg) (avg : Duration16) : Q :=
  match c.speedFn with
  | .reciprocal n => if avg = 0 then qMax else sat16 ((n / avg.toNat : Nat) : Int)
  | .tabulated values => values.getD avg.toNat 0

/-- The window average: exact sum of the four slots, divided by 4 rounding down (R172). -/
def windowAverage (w : Vector Duration16 4) : Duration16 :=
  BitVec.ofNat 16 ((w[0].toNat + w[1].toNat + w[2].toNat + w[3].toNat) / 4)

/-- The greatest of the history samples (R246). -/
def histMax (h : Vector Q 9) : Int := h.toList.foldl (fun m q => max m q.toInt) (-32768)

/-- The least of the history samples (R246). -/
def histMin (h : Vector Q 9) : Int := h.toList.foldl (fun m q => min m q.toInt) 32767

end Sys2Proof.Machine
end

