-- ==== Sys2Proof/WellFormed.lean ====
section
/-! DEFINITION. What is well formed: the configurations that meet spec 00_scope.md R8 and the constraints R9 (one named
check per item), and the operations that a trace may hold (30_encoding.md R80 to R82, R88). -/

namespace Sys2Proof

/-- The operation has an event word, format E (R81, R84); the phases are format P and stand in no trace (R82). -/
def Instr.isEvent : Instr → Bool
  | .looptime => false
  | .mains => false
  | .speed => false
  | .dispatch => false
  | .triac => false
  | .output => false
  | .wdt => false
  | .tick => true
  | .envMains _ => true
  | .envTacho => true
  | .envAdcSetpoint _ => true
  | .envAdcShunt0 _ => true
  | .envAdcShunt1 _ => true
  | .envAdcMottemp _ => true
  | .envAdcDietemp _ => true
  | .envAfeFail => true
  | .envRtfault _ => true
  | .irqMains => true
  | .irqTacho => true
  | .irqPulse => true
  | .irqUart => true
  | .mainStep => true
  | .wdtReset => true
  | .por => true
  | .halt => true

/-- The knots' `x` values rise strictly (R125). -/
def Curve.rises : Curve → Bool
  | k :: l :: rest => decide (k.x.toInt < l.x.toInt) && Curve.rises (l :: rest)
  | _ => true

/-- The knots' `y` values never fall (R125). -/
def Curve.nonDecreasing : Curve → Bool
  | k :: l :: rest => decide (k.y.toInt ≤ l.y.toInt) && Curve.nonDecreasing (l :: rest)
  | _ => true

/-- The knots' `y` values never rise (R125). -/
def Curve.nonIncreasing : Curve → Bool
  | k :: l :: rest => decide (l.y.toInt ≤ k.y.toInt) && Curve.nonIncreasing (l :: rest)
  | _ => true

/-- A valid curve: two knots or more, `x` strictly rising (R125). -/
def Curve.valid (c : Curve) : Bool := decide (2 ≤ c.length) && Curve.rises c

/-- Every knot's `y` is 0 or less. -/
def Curve.knotsNonPos (c : Curve) : Bool := c.all fun k => decide (k.y.toInt ≤ 0)

/-- Every knot's `y` is 0 or more. -/
def Curve.knotsNonNeg (c : Curve) : Bool := c.all fun k => decide (0 ≤ k.y.toInt)

/-- R8: "Parameters with a source value keep it". -/
def Cfg.sourceValuesOk (c : Cfg) : Bool :=
  decide (c.shortBits = 8) && decide (c.largeBits = 16) && decide (c.qBits = 16) && decide (c.qFrac = 8) &&
  decide (c.qWideBits = 24) && decide (c.seWindow = 4) && decide (c.confThreshold = 4) && decide (c.spHistLen = 9) &&
  decide (c.cadenceMissFactor = 5) && decide (c.pulseMin = 1) && decide (c.adcBits = 10) &&
  decide (c.adcChannels = 5)

/-- R9 item 1: every duration that is compared lies below half the large range. -/
def Cfg.halfRangeOk (c : Cfg) : Bool :=
  decide (c.halfWaveDur.toNat < 32768) && decide (c.mainsMinSpacing.toNat < 32768) &&
  decide (c.ctrlOffset.toNat < 32768) && decide (c.safetyPeriod.toNat < 32768) &&
  decide (c.cadenceMissFactor * c.safetyPeriod.toNat < 32768) && decide (c.zcTimeout.toNat < 32768) &&
  decide (c.postSettle.toNat < 32768) && decide (c.postSettle.toNat + c.postAssert.toNat < 32768) &&
  decide (c.startupDelay.toNat < 32768)

/-- R9 item 2: the spacing, the control offset and the greatest trigger offset fit the half-wave. -/
def Cfg.halfWaveOk (c : Cfg) : Bool :=
  decide (1 ≤ c.mainsMinSpacing.toNat) && decide (c.mainsMinSpacing.toNat ≤ c.halfWaveDur.toNat) &&
  decide (c.ctrlOffset.toNat < c.halfWaveDur.toNat) && decide (c.maxOffset.toNat ≤ c.halfWaveDur.toNat) &&
  decide (1 ≤ c.halfWaveDur.toNat)

/-- R9 item 3: the short-timer parameters lie in 1 to 127. -/
def Cfg.shortTimerOk (c : Cfg) : Bool :=
  decide (1 ≤ c.pulseWidth.toNat) && decide (c.pulseWidth.toNat ≤ 127) &&
  decide (1 ≤ c.shortArmMax.toNat) && decide (c.shortArmMax.toNat ≤ 127)

/-- R9 item 4: the pulse counts lie in 1 to 255. The two laws of R192 hold of every `PulseCountFn` by its form. -/
def Cfg.pulseCountOk (c : Cfg) : Bool :=
  match c.pulseCountFn with
  | .reference ez em => decide (1 ≤ ez) && decide (em ≤ 254)
  | .steps limits => decide (limits.length ≤ 254)

/-- R9 item 5: the filter divisors are at least 1. -/
def Cfg.divisorsOk (c : Cfg) : Bool :=
  decide (1 ≤ c.speedLpDiv) && decide (1 ≤ c.temp[0].lpDiv) && decide (1 ≤ c.temp[1].lpDiv)

/-- R9 item 6: `CONF_THRESHOLD ≤ CONF_MAX ≤ 255`. -/
def Cfg.confidenceOk (c : Cfg) : Bool :=
  decide (c.confThreshold ≤ c.confMax) && decide (c.confMax ≤ 255)

/-- R9 item 7: every curve is valid, and the temperature curves are monotone (R125, R227). -/
def Cfg.curvesOk (c : Cfg) : Bool :=
  c.setpointCurve.valid && c.sp2SpeedCurve.valid && c.ilimPosCurve.valid && c.ilimNegCurve.valid &&
  c.trigCurve.valid && c.temp[0].curve.valid && c.temp[1].curve.valid &&
  (c.temp[0].curve.nonDecreasing || c.temp[0].curve.nonIncreasing) &&
  (c.temp[1].curve.nonDecreasing || c.temp[1].curve.nonIncreasing)

/-- R9 item 8: the integral limits lie on their sides of zero. The rule asks it of every value of the two curves;
for valid curves that is the same as asking it of the knots (DEDUCED, entry 6). -/
def Cfg.integralLimitsOk (c : Cfg) : Bool := c.ilimNegCurve.knotsNonPos && c.ilimPosCurve.knotsNonNeg

/-- R9 item 9: `TEMP_LO[k] < TEMP_HI[k]`. -/
def Cfg.hysteresisOk (c : Cfg) : Bool :=
  decide (c.temp[0].lo.toInt < c.temp[0].hi.toInt) && decide (c.temp[1].lo.toInt < c.temp[1].hi.toInt)

/-- R9 item 10: `0 < DB_DEC < DB_INC ≤ DB_LIMIT ≤ 255`. -/
def Cfg.debounceOk (c : Cfg) : Bool :=
  decide (0 < c.dbDec) && decide (c.dbDec < c.dbInc) && decide (c.dbInc ≤ c.dbLimit) && decide (c.dbLimit ≤ 255)

/-- R9 item 11: `WDT_TIMEOUT ≥ 1`. -/
def Cfg.watchdogOk (c : Cfg) : Bool := decide (1 ≤ c.wdtTimeout)

/-- R177: in the default form `SPEED_NUM` lies in 1 to 2^23 − 1. -/
def Cfg.speedNumOk (c : Cfg) : Bool :=
  match c.speedFn with
  | .reciprocal n => decide (1 ≤ n) && decide (n < 8388608)
  | .tabulated _ => true

/-- The configurations that R9 (and R8, R177) admit; the step refuses any other (R9, entry 5). -/
def Cfg.wf (c : Cfg) : Bool :=
  c.halfRangeOk && c.halfWaveOk && c.shortTimerOk && c.pulseCountOk && c.divisorsOk && c.confidenceOk &&
  c.curvesOk && c.integralLimitsOk && c.hysteresisOk && c.debounceOk && c.watchdogOk && c.speedNumOk &&
  c.sourceValuesOk

end Sys2Proof
end

