-- ==== Sys2Proof/Machine/Ops.lean ====
section
/-! DEFINITION. The named operations over the cells, each a program of the context that may call it: the clock (spec
40_primitives.md R115, R116), the pins and analog channels (R68, R318), the capture record (R168), the pulse timer
(R194, R195), the debounce counter (R129, R130); and taking an interrupt (60_exceptions.md R334, R335). What touches a
`SHARED` cell asks for the critical-section token (R63). -/

namespace Sys2Proof.Machine

/-- `clk_hi` after the overflow flag is folded in (R116). -/
def foldHi (tov : Bool) (hi : Byte) : Byte := if tov then hi + 1 else hi

/-- The clock cells after the overflow flag is folded into `clk_hi`; a flag that is clear stays clear (R116). -/
def foldClock (k : Clock) : Clock := { k with hi := foldHi k.tov k.hi, tov := false }

/-- `clk_hi : clk_tcnt`, the large instant of folded clock cells (R70, R116). -/
def clockInstant (k : Clock) : Instant16 := k.hi ++ k.tcnt

/-- `now_large` (R116): the overflow flag folded in, and the instant. -/
def nowLarge {c : Context} (tok : CsToken c) : Program c Instant16 :=
  (Program.access (.readShared tok)).bind fun v =>
  (Program.access .nowShort).bind fun tcnt =>
  andThen (.access (.writeShared tok { v with hi := foldHi v.tov v.hi, tov := false }))
    (.pure (foldHi v.tov v.hi ++ tcnt))

/-- `now <- now_large()` in a main-loop phase: the call is a critical-section group of its own (R66, R116). -/
def readClock : Program .main Instant16 := .atomically fun tok => nowLarge tok

/-- `PinSet(out_gate_n, level)`: the gate pin is shared, so it takes the critical section (R20, R68). -/
def pinSetGate {c : Context} (tok : CsToken c) (level : Bool) : Program c Unit :=
  updateShared tok fun v => { v with gateN := level }

/-- `PinSet(out_sec_n, level)`: the relay pin is a `MAIN` cell (R20, R68). -/
def pinSetSec (level : Bool) (v : MainView) : MainView := { v with secN := level }

/-- `AdcGet(ch)`, from the main loop only (R318). -/
def adcGet (ch : Fin 5) (v : MainView) : Option AdcCode := v.adc[ch]

/-- A completed conversion of channel `ch` (R313). -/
def adcSet (ch : Fin 5) (code : AdcCode) : Program .env Unit :=
  updateInputs fun v => { v with adc := v.adc.set ch (some code) }

/-- The drain of the capture record: `cap_new` and `cap_ts` read, `cap_new` cleared (R75, R168). -/
def drainCapture (tok : CsToken .group) : Program .group Capture :=
  (Program.access (.readShared tok)).bind fun v =>
  andThen (.access (.writeShared tok { v with cap := { v.cap with new := false } })) (.pure v.cap)

/-- The handler's write of the capture record: the oldest unconsumed edge is kept (R166, R167). -/
def captureEdge (tok : CsToken .irq) (t : Instant16) : Program .irq Unit :=
  updateShared tok fun v => if v.cap.new then v else { v with cap := { new := true, ts := t } }

/-- `pt_arm(ocr, count)` (R194). -/
def ptArm (tok : CsToken .group) (ocr : Instant8) (count : Byte) : Program .group Unit :=
  updateShared tok fun v =>
    { v with ptIrq := false, pt := { enabled := true, ocr := ocr, phase := .gateSet, remaining := count } }

/-- `pt_cancel()` (R195). -/
def ptCancel (tok : CsToken .group) : Program .group Unit :=
  andThen (updateShared tok fun v => { v with ptIrq := false, pt := { v.pt with enabled := false, remaining := 0 } })
    (pinSetGate tok true)

/-- `db_step(fault, sticky)` (R129). -/
def dbStep (fault sticky : Bool) (v : MainView) : MainView :=
  { v with sf := { v.sf with count := dbNext v.cfg v.sf.count fault sticky } }

/-- `db_trip()` (R130). -/
def dbTrip (v : MainView) : MainView := { v with sf := { v.sf with count := v.cfg.dbLimit } }

/-- A step with an enabling condition (R84, R86): where the condition is false there is no step. -/
def whenEnabled (enabled : Bool) (s' : State) : Host.Outcome State Fault Refusal :=
  if enabled then .next s' else .refused .stepDisabled

/-- An outcome under a configuration that R9 admits; under any other there is no step (R9, entry 5). -/
def whenAdmitted (c : Cfg) (o : Host.Outcome State Fault Refusal) : Host.Outcome State Fault Refusal :=
  if c.wf then o else .refused .invalidConfig

/-- Taking an interrupt (R334): the handler runs when its request is pending and the core is not halted. Nothing is
saved, no mode changes, `ml_pc` is untouched; the return is the end of the step (R335). -/
def takeInterrupt (i : Instr) (pending : Bool) (handler : Body i) (s : State) : Host.Outcome State Fault Refusal :=
  whenEnabled (pending && !s.wd.halted) (perform i handler s)

end Sys2Proof.Machine
end

