-- ==== Sys2Proof/Machine/Environment.lean ====
section
/-! DEFINITION. The steps of agent ENV that set an input (spec 49_environment_events.md R311 to R315). All are always
enabled (R317). -/

namespace Sys2Proof.Machine

/-- `ENV_MAINS level` (R311). -/
def execEnvMains (level : Bool) (s : State) : Host.Outcome State Fault Refusal :=
  .next (perform (.envMains level) (updateInputs fun v => { v with mains := level }) s)

/-- `ENV_TACHO` (R312). -/
def execEnvTacho (s : State) : Host.Outcome State Fault Refusal := .next (perform .envTacho (.access .requestTacho) s)

/-- `ENV_ADC_SETPOINT code`, channel 0 (R313, R94). -/
def execEnvAdcSetpoint (code : AdcCode) (s : State) : Host.Outcome State Fault Refusal :=
  .next (perform (.envAdcSetpoint code) (adcSet 0 code) s)

/-- `ENV_ADC_SHUNT0 code`, channel 1 (R313, R94). -/
def execEnvAdcShunt0 (code : AdcCode) (s : State) : Host.Outcome State Fault Refusal :=
  .next (perform (.envAdcShunt0 code) (adcSet 1 code) s)

/-- `ENV_ADC_SHUNT1 code`, channel 2 (R313, R94). -/
def execEnvAdcShunt1 (code : AdcCode) (s : State) : Host.Outcome State Fault Refusal :=
  .next (perform (.envAdcShunt1 code) (adcSet 2 code) s)

/-- `ENV_ADC_MOTTEMP code`, channel 3 (R313, R94). -/
def execEnvAdcMottemp (code : AdcCode) (s : State) : Host.Outcome State Fault Refusal :=
  .next (perform (.envAdcMottemp code) (adcSet 3 code) s)

/-- `ENV_ADC_DIETEMP code`, channel 4 (R313, R94). -/
def execEnvAdcDietemp (code : AdcCode) (s : State) : Host.Outcome State Fault Refusal :=
  .next (perform (.envAdcDietemp code) (adcSet 4 code) s)

/-- `ENV_AFE_FAIL`: the flag is latched (R314). -/
def execEnvAfeFail (s : State) : Host.Outcome State Fault Refusal :=
  .next (perform .envAfeFail (updateInputs fun v => { v with afeFailure := true }) s)

/-- `ENV_RTFAULT level` (R315). -/
def execEnvRtfault (level : Bool) (s : State) : Host.Outcome State Fault Refusal :=
  .next (perform (.envRtfault level) (updateInputs fun v => { v with rtfault := level }) s)

end Sys2Proof.Machine
end

