-- ==== Sys2Proof/Machine/Interrupts.lean ====
section
/-! DEFINITION. The four interrupt handlers (spec 60_exceptions.md R332): `IRQ_MAINS` (R337), `IRQ_TACHO`
(42_speed_estimator.md R166, R167), `IRQ_PULSE` (43_triac_scheduler.md R197) and `IRQ_UART` (R338). -/

namespace Sys2Proof.Machine

/-- `IRQ_MAINS` changes no cell; it has no pending bit (R332, R337). -/
def execIrqMains (s : State) : Host.Outcome State Fault Refusal := takeInterrupt .irqMains true (.pure ()) s

/-- The body of `IRQ_TACHO` (R166): the request cleared, the handler's instant captured unless an edge is unconsumed
(R167). -/
def tachoHandler (tok : CsToken .irq) : Program .irq Unit :=
  andThen (.access .clearTacho) ((nowLarge tok).bind fun now => captureEdge tok now)

/-- `IRQ_TACHO` (R166). -/
def execIrqTacho (s : State) : Host.Outcome State Fault Refusal :=
  takeInterrupt .irqTacho s.irq.tacho (tachoHandler .irq) s

/-- The next half-pulse's compare value: one pulse width past the counter at handler time (R197). -/
def nextHalfPulse : Program .irq Instant8 :=
  (Program.access .nowShort).bind fun now => (Program.access .config).bind fun c => .pure (iAdd now c.pulseWidth)

/-- `pt_remaining - 1`, never below 0 (R131, R197). -/
def countDown (n : Byte) : Byte := if n = 0 then 0 else n - 1

/-- The handler's write of the pulse-timer cells it owns once armed (R198). -/
def pulseUpdate (tok : CsToken .irq) (f : PulseTimer → PulseTimer) : Program .irq Unit :=
  updateShared tok fun v => { v with pt := f v.pt }

/-- `GateSet`: the gate set, and the next half-pulse clears it (R197). -/
def startPulse (tok : CsToken .irq) : Program .irq Unit :=
  andThen (pinSetGate tok false)
    (nextHalfPulse.bind fun ocr => pulseUpdate tok fun p => { p with phase := .gateClear, ocr := ocr })

/-- `GateClear`: the gate cleared with one pulse less to go; the timer disabled when none is left (R197). -/
def endPulse (tok : CsToken .irq) : Program .irq Unit :=
  andThen (pinSetGate tok true)
    (nextHalfPulse.bind fun ocr => pulseUpdate tok fun p =>
      if countDown p.remaining = 0 then { p with remaining := countDown p.remaining, enabled := false }
      else { p with remaining := countDown p.remaining, phase := .gateSet, ocr := ocr })

/-- The body of `IRQ_PULSE` (R197): the request cleared, and the action `pt_phase` names. -/
def pulseHandler (tok : CsToken .irq) : Program .irq Unit :=
  andThen (updateShared tok fun v => { v with ptIrq := false })
    ((Program.access (.readShared tok)).bind fun v =>
      match v.pt.phase with
      | .gateSet => startPulse tok
      | .gateClear => endPulse tok)

/-- `IRQ_PULSE` (R197). -/
def execIrqPulse (s : State) : Host.Outcome State Fault Refusal :=
  takeInterrupt .irqPulse s.irq.pt (pulseHandler .irq) s

/-- `IRQ_UART` changes no cell; it has no pending bit (R332, R338). -/
def execIrqUart (s : State) : Host.Outcome State Fault Refusal := takeInterrupt .irqUart true (.pure ()) s

end Sys2Proof.Machine
end

