-- ==== Sys2Proof/Machine/Flags.lean ====
section
/-! DEFINITION. The conditions read off the state: the enabling conditions (spec 30_encoding.md R84), the estimator's
validity gate (42_speed_estimator.md R176), the fault conditions (60_exceptions.md R331), the safety verdict
(46_safety_monitor.md R251) and the temperature vote (45_temp_monitor.md R232); with the numeric codes of R92 and
R331. No arithmetic operation sets a flag (10_state.md R37). -/

namespace Sys2Proof.Machine

/-- `TICK` is enabled while the watchdog has not expired (R310). -/
def tickEnabled (s : State) : Bool := decide (s.wd.count < s.cfg.wdtTimeout)

/-- `WDT_RESET` is enabled once the watchdog has expired (R343). -/
def watchdogExpired (s : State) : Bool := decide (s.cfg.wdtTimeout ≤ s.wd.count)

/-- `get_speed()` (R176). -/
def getSpeed (v : MainView) : Option Q :=
  if v.cfg.confThreshold ≤ v.se.conf then some v.se.filt else none

/-- A non-zero speed reading (R267). -/
def spinning (v : MainView) : Bool :=
  match getSpeed v with
  | none => false
  | some speed => decide (speed ≠ 0)

/-- `MainsSyncLost` (R242, R331): strictly more than `ZC_TIMEOUT` past the last transition. -/
def mainsSyncLost (v : MainView) (now : Instant16) : Bool :=
  iGt now (iAdd v.sf.lastZc v.cfg.zcTimeout)

/-- A safety cycle is due (R243). -/
def safetyCycleDue (v : MainView) (now : Instant16) : Bool :=
  iGe now (iAdd v.sf.lastCheck v.cfg.safetyPeriod)

/-- `CadenceMissed` (R244, R331): strictly more than `CADENCE_MISS_FACTOR` periods since the last cycle. -/
def cadenceMissed (v : MainView) (now : Instant16) : Bool :=
  iGt now (iAdd v.sf.lastCheck
    (BitVec.ofNat 16 (v.cfg.cadenceMissFactor * v.cfg.safetyPeriod.toNat)))

/-- The setpoint is stable: the spread of the nine samples is within `SP_STABLE_TOL` (R246). -/
def setpointStable (v : MainView) : Bool :=
  decide (histMax v.sf.hist - histMin v.sf.hist ≤ v.cfg.spStableTol.toInt)

/-- `Overspeed` (R247, R331). -/
def overspeed (v : MainView) (speed : Q) : Bool := qLt v.cfg.speedHardLimit speed

/-- `SpeedDeviation` (R248, R331). -/
def speedDeviation (v : MainView) (speed sp : Q) : Bool :=
  setpointStable v && qLt v.cfg.devActivation speed && qLt v.cfg.devTol (qabs (qsub speed sp))

/-- The immediate faults of a safety cycle that started with `missed` (R249). -/
def immediateFault (v : MainView) (missed : Bool) : Bool :=
  missed || v.afeFailure || v.rtfault

/-- `SafetyVerdict` (R92, R251). -/
inductive SafetyVerdict where
  | running
  | shutoff
deriving DecidableEq, Repr

/-- `db_tripped()` (R130). -/
def dbTripped (v : MainView) : Bool := decide (v.cfg.dbLimit ≤ v.sf.count)

/-- `safety_verdict()` (R251). -/
def safetyVerdict (v : MainView) : SafetyVerdict :=
  if dbTripped v then .shutoff else .running

/-- `temp_vote()` (R232). -/
def tempVote (v : MainView) : Bool :=
  v.tm.shutoff[0] || v.tm.shutoff[1]

/-- The OR of the shutoff votes (R289). -/
def shutoffDecision (v : MainView) : Bool :=
  dbTripped v || (v.cfg.tempInSafetyPath && tempVote v)

/-- The fault conditions (R331). None stops the machine or is stored. -/
inductive FaultCondition where
  | overspeed
  | speedDeviation
  | cadenceMissed
  | analogFailure
  | mainsSyncLost
  | runtimeIntegrity
  | selfTestFailed
  | overTemperature (k : Fin 2)
deriving DecidableEq, Repr

/-- The codes of the fault conditions (R331), for traces and logs only. -/
def faultCode : FaultCondition → Nat
  | .overspeed => 1
  | .speedDeviation => 2
  | .cadenceMissed => 3
  | .analogFailure => 4
  | .mainsSyncLost => 5
  | .runtimeIntegrity => 6
  | .selfTestFailed => 7
  | .overTemperature _ => 8

/-- The codes of `SystemState` (R92). -/
def systemStateCode : SystemState → Nat
  | .startup => 0
  | .selfTest => 1
  | .syncing => 2
  | .running => 3

/-- The codes of `MainsPhase` (R92). -/
def mainsPhaseCode : MainsPhase → Nat
  | .unsynchronized => 0
  | .positiveHalfwave => 1
  | .negativeHalfwave => 2

/-- The codes of `PostStage` (R92). -/
def postStageCode : PostStage → Nat
  | .checkIdle => 0
  | .checkSecondaryPath => 1
  | .checkPrimaryPath => 2
  | .error => 3
  | .done => 4

/-- The codes of `PulsePhase` (R92). -/
def pulsePhaseCode : PulsePhase → Nat
  | .gateClear => 0
  | .gateSet => 1

/-- The codes of `SafetyVerdict` (R92). -/
def safetyVerdictCode : SafetyVerdict → Nat
  | .running => 0
  | .shutoff => 1

end Sys2Proof.Machine
end

