-- ==== Sys2Proof/Machine/Control.lean ====
section
/-! DEFINITION. The procedures of the control path: the PID controller with gain-scheduled anti-windup
(spec 44_controller.md R210 to R220), the temperature monitor (45_temp_monitor.md R225 to R232) and the safety
monitor (46_safety_monitor.md R240 to R254). They are called from phase `DISPATCH`. -/

namespace Sys2Proof.Machine

/-- The speed the controller works with: the synthetic one while syncing, else the measured one (R212, R218).
Outside syncing R287 makes `speed` present; the 0 for an absent one is never reached from `exec` (entry 8). -/
def controllerSpeed (c : Cfg) (sp : Q) (speed : Option Q) (syncing : Bool) : Q :=
  if syncing then curveEval c.sp2SpeedCurve sp else speed.getD 0

/-- The accumulator after this control tick: 0 while syncing, else the clamped sum (R215, R218). -/
def integralNext (c : Cfg) (i e y : Q) (syncing : Bool) : Q :=
  if syncing then 0
  else
    let iNew := qadd i (qmul c.ki e)
    let limPos := curveEval c.ilimPosCurve y
    let limNeg := curveEval c.ilimNegCurve y
    BitVec.ofInt 16 (min (max iNew.toInt limNeg.toInt) limPos.toInt)

/-- The controller cells after a control tick (R212 to R217). -/
def controllerNext (c : Cfg) (k : Controller) (sp : Q) (speed : Option Q) (syncing : Bool) : Controller :=
  let y := controllerSpeed c sp speed syncing
  let e := qsub sp y
  let p := qmul c.kp e
  let i := integralNext c k.i e y syncing
  let d := qmul c.kd (qsub e k.prevE)
  { i := i, prevE := e, out := qadd (qadd p i) d }

/-- `ctrl_step` (R212); its result is `ctl_out`. -/
def ctrlStep (sp : Q) (speed : Option Q) (syncing : Bool) (v : MainView) : MainView :=
  { v with ctl := controllerNext v.cfg v.ctl sp speed syncing }

/-- The conversion of the controller's output to the trigger offset: the curve's 16 bits read as unsigned (R220). -/
def setTriggerOffset (v : MainView) : MainView :=
  { v with tr := { v.tr with offset := curveEval v.cfg.trigCurve v.ctl.out } }

/-- The hysteresis output (R231). -/
def hysteresis (t : TempCfg) (filt : Q) (vote : Bool) : Bool :=
  if qLt t.hi filt then true else if qLt filt t.lo then false else vote

/-- One channel's filter and vote after a result `code` (R226 to R231). -/
def tempChannelNext (t : TempCfg) (code : Option AdcCode) (filt : Q) (vote : Bool) : Q × Bool :=
  match code with
  | none => (filt, vote)
  | some code =>
    if curveInRange t.curve (codeToQ code) then
      let filt' := lpStep filt (curveEval t.curve (codeToQ code)) t.lpDiv
      (filt', hysteresis t filt' vote)
    else (filt, true)

/-- `temp_step` for channel `i`, whose analog channel is `3 + i` (R226). -/
def tempStepChannel (i : Fin 2) (ch : Fin 5) (v : MainView) : MainView :=
  let r := tempChannelNext v.cfg.temp[i] (adcGet ch v) v.tm.filt[i] v.tm.shutoff[i]
  { v with tm := { filt := v.tm.filt.set i r.1, shutoff := v.tm.shutoff.set i r.2 } }

/-- `temp_step()` (R226). -/
def tempStep (v : MainView) : MainView := tempStepChannel 1 4 (tempStepChannel 0 3 v)

/-- `sf_last_zc <- now` on a transition (R242). -/
def noteCrossing (now : Instant16) (zc : Bool) (v : MainView) : MainView :=
  { v with sf := { v.sf with lastZc := if zc then now else v.sf.lastZc } }

/-- The zero-crossing bookkeeping of every call (R242). -/
def zeroCrossingCheck (now : Instant16) (zc : Bool) (v : MainView) : MainView :=
  let v1 := noteCrossing now zc v
  if mainsSyncLost v1 now then dbTrip v1 else v1

/-- The history sample of a safety cycle (R245). -/
def pushSetpoint (sp : Q) (v : MainView) : MainView :=
  { v with sf := { v.sf with hist := v.sf.hist.set v.sf.hidx sp, hidx := v.sf.hidx + 1 } }

/-- `sf_last_check <- now` (R243). -/
def setLastCheck (now : Instant16) (v : MainView) : MainView := { v with sf := { v.sf with lastCheck := now } }

/-- One safety cycle (R244 to R250). -/
def safetyCycle (now : Instant16) (sp speed : Q) (v : MainView) : MainView :=
  let v1 := pushSetpoint sp (setLastCheck now v)
  if immediateFault v1 (cadenceMissed v now) then dbTrip v1
  else dbStep (speedDeviation v1 speed sp) true (dbStep (overspeed v1 speed) true v1)

/-- `safety_step` (R253). -/
def safetyStep (now : Instant16) (sp speed : Q) (zc : Bool) (v : MainView) : MainView :=
  let v1 := zeroCrossingCheck now zc v
  if safetyCycleDue v1 now then safetyCycle now sp speed v1 else v1

end Sys2Proof.Machine
end

