-- ==== Sys2Proof/Machine/MainsPhase.lean ====
section
/-! DEFINITION. Phase `MAINS`: the zero-crossing detector and phase tracker (spec 41_mains_sync.md R150 to R159). -/

namespace Sys2Proof.Machine

/-- The transition of this phase, if there is one: the new phase and the new reference (R153 to R156). -/
def mainsTransition (c : Cfg) (phase : MainsPhase) (ref now : Instant16) (rise : Bool) :
    Option (MainsPhase × Instant16) :=
  match phase with
  | .unsynchronized => if rise then some (.positiveHalfwave, now) else none
  | .negativeHalfwave =>
    if rise && iGe now (iAdd ref c.mainsMinSpacing) then some (.positiveHalfwave, now) else none
  | .positiveHalfwave =>
    if iGe now (iAdd ref c.halfWaveDur) then some (.negativeHalfwave, iAdd ref c.halfWaveDur) else none

/-- The MainsSync cells after a sample `pin` at `now` (R152, R157, R158). -/
def mainsUpdate (c : Cfg) (m : MainsSync) (pin : Bool) (now : Instant16) : MainsSync :=
  match mainsTransition c m.phase m.ref now (pin && !m.prevPin) with
  | none => { m with prevPin := pin, transition := false }
  | some (phase, ref) => { phase := phase, ref := ref, prevPin := pin, transition := true }

/-- The sample: pin and clock "read together to avoid skew" (R66, R151). -/
def samplePin (tok : CsToken .group) : Program .group (Bool × Instant16) :=
  (nowLarge tok).bind fun now => (Program.access .mainsPin).bind fun pin => .pure (pin, now)

/-- Phase `MAINS`, whole (R158): pin and clock read together (R151), then the tracker. -/
def phaseMains : Program .main Unit :=
  (Program.atomically samplePin).bind fun r => updateMain fun v => { v with ms := mainsUpdate v.cfg v.ms r.1 r.2 }

/-- `MAINS` (R158). -/
def execMains (s : State) : Host.Outcome State Fault Refusal := .next (perform .mains phaseMains s)

end Sys2Proof.Machine
end

