-- ==== Sys2Proof/Machine/PowerOnSelfTest.lean ====
section
/-! DEFINITION. The power-on self-test: the staged check of both shutoff paths (spec 47_post.md R265 to R273). It is
called from phase `DISPATCH` while `sys_state = SelfTest`. -/

namespace Sys2Proof.Machine

/-- The stages that check something (R265). -/
def isCheckStage : PostStage → Bool
  | .checkIdle => true
  | .checkSecondaryPath => true
  | .checkPrimaryPath => true
  | .error => false
  | .done => false

/-- The stage after a check passed (R268). -/
def nextStage : PostStage → PostStage
  | .checkIdle => .checkSecondaryPath
  | .checkSecondaryPath => .checkPrimaryPath
  | .checkPrimaryPath => .done
  | .error => .error
  | .done => .done

/-- The stage cells after a call at `now` (R266 to R269, R272). -/
def stageNext (c : Cfg) (p : SelfTest) (spinning : Bool) (now : Instant16) : SelfTest :=
  if isCheckStage p.stage then
    if iGe now (iAdd p.t0 c.postSettle) && spinning then { p with stage := .error }
    else if iGe now (iAdd p.t0 (c.postSettle + c.postAssert)) then { stage := nextStage p.stage, t0 := now }
    else p
  else p

/-- The shutoff votes of a branch (R271, R284, R289). -/
def setVotes (primary secondary : Bool) (v : MainView) : MainView :=
  { v with sys := { v.sys with primaryShutoff := primary, secondaryShutoff := secondary } }

/-- The hand-over to `Syncing` (R252, R270). -/
def handOver (now : Instant16) (v : MainView) : MainView :=
  { setVotes true true v with
    sys := { (setVotes true true v).sys with state := .syncing }
    tr := { v.tr with offset := 0xFFFF }
    sf := { v.sf with lastCheck := now, lastZc := now }
    ctl := { v.ctl with i := 0 } }

/-- `tr_offset <- d` (R270, R271). -/
def setOffset (d : Duration16) (v : MainView) : MainView := { v with tr := { v.tr with offset := d } }

/-- The outputs of the stage just reached (R271). -/
def stageOutputs (now : Instant16) (v : MainView) : MainView :=
  match v.post.stage with
  | .checkIdle => setVotes true true v
  | .checkSecondaryPath => setOffset v.cfg.postTriacOffset (setVotes false true v)
  | .checkPrimaryPath => setVotes true false v
  | .error => setVotes true true v
  | .done => handOver now v

/-- `post_step(now)` (R272). -/
def postStep (now : Instant16) (v : MainView) : MainView :=
  stageOutputs now { v with post := stageNext v.cfg v.post (spinning v) now }

end Sys2Proof.Machine
end

