-- ==== Sys2Proof/Machine/SpeedPhase.lean ====
section
/-! DEFINITION. Phase `SPEED`: the drain of the tachometer capture and the digital filter
(spec 42_speed_estimator.md R165, R168 to R178). -/

namespace Sys2Proof.Machine

/-- The average and the filter, when confidence has reached the threshold (R172, R173, R177). -/
def filterSpeed (c : Cfg) (e : SpeedEstimator) : SpeedEstimator :=
  if c.confThreshold ≤ e.conf then
    { e with filt := lpStep e.filt (durToSpeed c (windowAverage e.win)) c.speedLpDiv }
  else e

/-- An accepted edge: its duration into the window, confidence up, then the filter (R169 to R173). -/
def acceptEdge (c : Cfg) (e : SpeedEstimator) (ts : Instant16) : SpeedEstimator :=
  filterSpeed c
    { e with
      win := e.win.set e.widx (iSub ts e.lastEdge)
      widx := e.widx + 1
      conf := min (e.conf + 1) c.confMax }

/-- A drained edge: accepted when not older than the stored one, and stored either way (R169, R174). -/
def drainEdge (c : Cfg) (e : SpeedEstimator) (ts : Instant16) : SpeedEstimator :=
  let e1 := if iGe ts e.lastEdge then acceptEdge c e ts else e
  { e1 with lastEdge := ts }

/-- No drained edge: confidence is lost when the stored edge is stale (R175). -/
def checkStale (e : SpeedEstimator) (now : Instant16) : SpeedEstimator :=
  if iGe now e.lastEdge then e else { e with conf := 0 }

/-- The drain's group: the record, with the clock (R66, R168). -/
def drainAndRead (tok : CsToken .group) : Program .group (Capture × Instant16) :=
  (drainCapture tok).bind fun cap => (nowLarge tok).bind fun now => .pure (cap, now)

/-- Phase `SPEED`, whole (R168). -/
def phaseSpeed : Program .main Unit :=
  (Program.atomically drainAndRead).bind fun r =>
    updateMain fun v => { v with se := if r.1.new then drainEdge v.cfg v.se r.1.ts else checkStale v.se r.2 }

/-- `SPEED` (R168). -/
def execSpeed (s : State) : Host.Outcome State Fault Refusal := .next (perform .speed phaseSpeed s)

end Sys2Proof.Machine
end

