-- ==== Sys2Proof/Machine/TriacPhase.lean ====
section
/-! DEFINITION. Phase `TRIAC`: the multi-pulse trigger scheduler's main-loop half
(spec 43_triac_scheduler.md R185 to R195). -/

namespace Sys2Proof.Machine

/-- The effective offset: the configured one, or the next tick if that has gone by; an integer, up to 65536 (R189). -/
def effectiveOffset (offset elapsed : Duration16) : Nat := max offset.toNat (elapsed.toNat + 1)

/-- `tr_pending <- b` (R186). -/
def setPending (b : Bool) : Program .main Unit := updateMain fun v => { v with tr := { v.tr with pending := b } }

/-- `pt_cancel()` from the main loop (R66, R195). -/
def cancelPulses : Program .main Unit := .atomically fun tok => ptCancel tok

/-- `pt_arm(ocr, count)` from the main loop (R66, R194). -/
def armPulses (ocr : Instant8) (count : Byte) : Program .main Unit := .atomically fun tok => ptArm tok ocr count

/-- A trigger past `MAX_OFFSET`, or the primary path shut off: cancelled (R187, R190). -/
def cancelTrigger : Program .main Unit := andThen cancelPulses (setPending false)

/-- The arming of a trigger at effective offset `eff` (R191). -/
def armTrigger (c : Cfg) (ref : Instant16) (eff : Nat) : Program .main Unit :=
  andThen
    (armPulses ((iAdd ref (BitVec.ofNat 16 eff)).extractLsb' 0 8) (BitVec.ofNat 8 (pulseCount c eff)))
    (setPending false)

/-- A pending trigger at `eff`, `elapsed` into the half-wave (R189 to R191): cancelled when it lies past `MAX_OFFSET`,
armed when it is near, else looked at again. -/
def scheduleTrigger (c : Cfg) (ref : Instant16) (eff elapsed : Nat) : Program .main Unit :=
  if c.maxOffset.toNat < eff then cancelTrigger
  else if eff - elapsed ≤ c.shortArmMax.toNat then armTrigger c ref eff
  else .pure ()

/-- A pending trigger (R186, R189). -/
def serveTrigger (now : Instant16) : Program .main Unit :=
  readMain.bind fun v =>
    scheduleTrigger v.cfg v.ms.ref (effectiveOffset v.tr.offset (iSub now v.ms.ref)) (iSub now v.ms.ref).toNat

/-- A half-wave transition: any pulse sequence cancelled, a trigger marked pending (R188). -/
def startHalfWave : Program .main Unit :=
  readMain.bind fun v => if v.ms.transition then andThen cancelPulses (setPending true) else .pure ()

/-- The trigger, if one is pending, served (R186). -/
def serveIfPending (now : Instant16) : Program .main Unit :=
  readMain.bind fun v => if v.tr.pending then serveTrigger now else .pure ()

/-- Phase `TRIAC`, whole (R186). Shutoff has priority (R187). -/
def phaseTriac : Program .main Unit :=
  readClock.bind fun now =>
  readMain.bind fun v =>
    if v.sys.primaryShutoff then cancelTrigger else andThen startHalfWave (serveIfPending now)

/-- `TRIAC` (R186). -/
def execTriac (s : State) : Host.Outcome State Fault Refusal := .next (perform .triac phaseTriac s)

end Sys2Proof.Machine
end

