-- ==== Sys2Proof/Machine/Orchestrator.lean ====
section
/-! DEFINITION. The main-loop sequencer and the system state machine (spec 48_orchestrator.md R280 to R294): phases
`LOOPTIME`, `DISPATCH`, `OUTPUT`, `WDT`, and `MAIN_STEP`. -/

namespace Sys2Proof.Machine

/-- Phase `LOOPTIME` (R282). -/
def phaseLooptime : Program .main Unit :=
  readClock.bind fun now => updateMain fun v =>
    { v with ml := { v.ml with diagLoopRuntime := iSub now v.ml.lastStart, lastStart := now } }

/-- `LOOPTIME` (R282). -/
def execLooptime (s : State) : Host.Outcome State Fault Refusal := .next (perform .looptime phaseLooptime s)

/-- `sys_state <- st` (R284, R287). -/
def setSystemState (st : SystemState) (v : MainView) : MainView := { v with sys := { v.sys with state := st } }

/-- The start of a self-test at `now` (R284). -/
def startSelfTest (now : Instant16) (v : MainView) : MainView :=
  { setSystemState .selfTest v with post := { stage := .checkIdle, t0 := now } }

/-- Branch `Startup` (R284). -/
def startupStep (now : Instant16) (v : MainView) : MainView :=
  if iGe now (iAdd v.sys.t0 v.cfg.startupDelay) then startSelfTest now (setVotes true true v) else setVotes true true v

/-- The setpoint in speed units; no result yet reads as 0 (R286). -/
def setpoint (v : MainView) : Q :=
  match adcGet 0 v with
  | none => 0
  | some code => curveEval v.cfg.setpointCurve (codeToQ code)

/-- `ctl_i <- 0` (R287). -/
def clearIntegral (v : MainView) : MainView := { v with ctl := { v.ctl with i := 0 } }

/-- `Syncing` and `Running` (R287). -/
def switchLoop (sp : Q) (speed : Option Q) (v : MainView) : MainView :=
  if v.sys.state = .running ∧ (qLt sp v.cfg.spRunThreshold = true ∨ speed = none) then
    clearIntegral (setSystemState .syncing v)
  else if v.sys.state = .syncing ∧ qLt sp v.cfg.spRunThreshold = false ∧ speed ≠ none then
    setSystemState .running v
  else v

/-- The control tick: temperature, controller, trigger offset (R288). -/
def housekeeping (sp : Q) (speed : Option Q) (v : MainView) : MainView :=
  setTriggerOffset (ctrlStep sp speed (decide ((tempStep v).sys.state = .syncing)) (tempStep v))

/-- The shutoff decision on both paths (R289). -/
def decideShutoff (v : MainView) : MainView := setVotes (shutoffDecision v) (shutoffDecision v) v

/-- The control path of an iteration (R286 to R289). -/
def controlPath (now : Instant16) (hkDue : Bool) (v : MainView) : MainView :=
  let sp := setpoint v
  let speed := getSpeed v
  let v1 := switchLoop sp speed v
  let v2 := if hkDue then housekeeping sp speed v1 else v1
  decideShutoff (safetyStep now sp (speed.getD 0) v2.ms.transition v2)

/-- The control-tick detector is armed in this phase (R283). -/
def hkArmedNow (v : MainView) : Bool := v.sys.hkArmed || v.ms.transition

/-- The control tick is due (R283). -/
def hkDue (now : Instant16) (v : MainView) : Bool := hkArmedNow v && iGe now (iAdd v.ms.ref v.cfg.ctrlOffset)

/-- The dispatch on the system state (R283). -/
def dispatchState (now : Instant16) (due : Bool) (v : MainView) : MainView :=
  match v.sys.state with
  | .startup => startupStep now v
  | .selfTest => postStep now v
  | .syncing => controlPath now due v
  | .running => controlPath now due v

/-- `hk_armed <- b` (R283). -/
def setArmed (b : Bool) (v : MainView) : MainView := { v with sys := { v.sys with hkArmed := b } }

/-- Phase `DISPATCH` once the clock is read (R283). -/
def dispatchAt (now : Instant16) (v : MainView) : MainView :=
  dispatchState now (hkDue now v) (setArmed (hkArmedNow v && !hkDue now v) v)

/-- Phase `DISPATCH`, whole (R283). -/
def phaseDispatch : Program .main Unit := readClock.bind fun now => updateMain (dispatchAt now)

/-- `DISPATCH` (R283). -/
def execDispatch (s : State) : Host.Outcome State Fault Refusal := .next (perform .dispatch phaseDispatch s)

/-- Phase `OUTPUT` (R290). -/
def phaseOutput : Program .main Unit := updateMain fun v => pinSetSec v.sys.secondaryShutoff v

/-- `OUTPUT` (R290). -/
def execOutput (s : State) : Host.Outcome State Fault Refusal := .next (perform .output phaseOutput s)

/-- Phase `WDT`: the watchdog poke (R291). -/
def phaseWdt : Program .main Unit := .access .poke

/-- `WDT` (R291). -/
def execWdt (s : State) : Host.Outcome State Fault Refusal := .next (perform .wdt phaseWdt s)

/-- The phase of a phase code (R280). -/
def phaseProgram (pc : Fin 7) : Program .main Unit :=
  match pc with
  | 0 => phaseLooptime
  | 1 => phaseMains
  | 2 => phaseSpeed
  | 3 => phaseDispatch
  | 4 => phaseTriac
  | 5 => phaseOutput
  | 6 => phaseWdt

/-- The phase whose code is `ml_pc` (R281). -/
def performPhase : Program .main Unit := readMain.bind fun v => phaseProgram v.ml.pc

/-- `ml_pc <- (ml_pc + 1) mod 7` (R281). -/
def advancePhase : Program .main Unit := updateMain fun v => { v with ml := { v.ml with pc := v.ml.pc + 1 } }

/-- `MAIN_STEP` (R281). -/
def execMainStep (s : State) : Host.Outcome State Fault Refusal :=
  whenEnabled (!s.wd.halted) (perform .mainStep (andThen performPhase advancePhase) s)

end Sys2Proof.Machine
end

