-- ==== Sys2Proof/Machine/ResetHalt.lean ====
section
/-! DEFINITION. The two reset causes and the halt (spec 49_environment_events.md R316, 60_exceptions.md R341, R343). -/

namespace Sys2Proof.Machine

/-- `POR` (R316). -/
def execPor (s : State) : Host.Outcome State Fault Refusal := .next (perform .por (.access .powerOnReset) s)

/-- `WDT_RESET` (R343). -/
def execWdtReset (s : State) : Host.Outcome State Fault Refusal :=
  whenEnabled (watchdogExpired s) (perform .wdtReset (.access .watchdogReset) s)

/-- `HALT` (R341). -/
def execHalt (s : State) : Host.Outcome State Fault Refusal := .next (perform .halt (.access .halt) s)

end Sys2Proof.Machine
end

