-- ==== Sys2Proof/Machine/TimeBase.lean ====
section
/-! DEFINITION. `TICK`, the step of agent TIMEBASE (spec 49_environment_events.md R310). -/

namespace Sys2Proof.Machine

/-- One increment of the hardware counter: overflow flag, compare match on the new value, watchdog count (R310,
R196). -/
def tickCells (v : TickView) : TickCells :=
  { tcnt := v.tcnt + 1
    tov := v.tov || decide (v.tcnt + 1 = 0)
    ptIrq := v.ptIrq || (v.compareEnabled && decide (v.tcnt + 1 = v.compareValue))
    wdtCount := v.wdtCount + 1 }

/-- The body of `TICK` (R310). -/
def tickBody : Program .timebase Unit :=
  (Program.access .readTick).bind fun v => .access (.writeTick (tickCells v))

/-- `TICK` (R310). -/
def execTick (s : State) : Host.Outcome State Fault Refusal :=
  whenEnabled (tickEnabled s) (perform .tick tickBody s)

end Sys2Proof.Machine
end

