-- ==== Sys2Proof/Machine/Dispatch.lean ====
section
/-! DEFINITION. The dispatch: one arm per operation. -/

namespace Sys2Proof.Machine

def exec (i : Instr) (s : State) : Host.Outcome State Fault Refusal :=
  match i with
  -- TIMEBASE
  | .tick => Sys2Proof.Machine.execTick s
  -- ENV
  | .envMains level => Sys2Proof.Machine.execEnvMains level s
  | .envTacho => Sys2Proof.Machine.execEnvTacho s
  | .envAdcSetpoint code => Sys2Proof.Machine.execEnvAdcSetpoint code s
  | .envAdcShunt0 code => Sys2Proof.Machine.execEnvAdcShunt0 code s
  | .envAdcShunt1 code => Sys2Proof.Machine.execEnvAdcShunt1 code s
  | .envAdcMottemp code => Sys2Proof.Machine.execEnvAdcMottemp code s
  | .envAdcDietemp code => Sys2Proof.Machine.execEnvAdcDietemp code s
  | .envAfeFail => Sys2Proof.Machine.execEnvAfeFail s
  | .envRtfault level => Sys2Proof.Machine.execEnvRtfault level s
  -- IRQ
  | .irqMains => Sys2Proof.Machine.execIrqMains s
  | .irqTacho => Sys2Proof.Machine.execIrqTacho s
  | .irqPulse => Sys2Proof.Machine.execIrqPulse s
  | .irqUart => Sys2Proof.Machine.execIrqUart s
  -- MAIN, WATCHDOG, ENV
  | .mainStep => Sys2Proof.Machine.execMainStep s
  | .wdtReset => Sys2Proof.Machine.execWdtReset s
  | .por => Sys2Proof.Machine.execPor s
  | .halt => Sys2Proof.Machine.execHalt s
  -- the phases of MAIN_STEP, each alone
  | .looptime => Sys2Proof.Machine.execLooptime s
  | .mains => Sys2Proof.Machine.execMains s
  | .speed => Sys2Proof.Machine.execSpeed s
  | .dispatch => Sys2Proof.Machine.execDispatch s
  | .triac => Sys2Proof.Machine.execTriac s
  | .output => Sys2Proof.Machine.execOutput s
  | .wdt => Sys2Proof.Machine.execWdt s

end Sys2Proof.Machine
end

