-- ==== Sys2Proof/Machine/Meaning.lean ====
section
/-! DEFINITION. The typed meaning of an operation (spec 20_memory.md R63, 60_exceptions.md R345): what `exec` answers
for an operation is the guarded performance of a program of the operation's agent. The step takes no other meaning, so
an arm of `exec` that did anything else would leave the model without a step. -/

namespace Sys2Proof.Machine

/-- `f` is a step that operation `i` may take: where an enabling condition holds, the performance of a body in the
context of `i`'s agent (R62, R63, R86). -/
def IsStepOf (i : Instr) (f : State → Host.Outcome State Fault Refusal) : Prop :=
  ∃ (enabled : State → Bool) (body : Body i), ∀ s, f s = whenEnabled (enabled s) (perform i body s)

/-- A meaning that operation `i` may have (R63). -/
def Meaning (i : Instr) : Type := { f : State → Host.Outcome State Fault Refusal // IsStepOf i f }

/-- A body that is always enabled. -/
theorem isStepOf_always {i : Instr} {f : State → Host.Outcome State Fault Refusal} (body : Body i)
    (h : ∀ s, f s = .next (perform i body s)) : IsStepOf i f := ⟨fun _ => true, body, h⟩

/-- Every arm of `exec` is such a meaning. -/
theorem exec_isStepOf : ∀ i : Instr, IsStepOf i (exec i)
  | .tick => ⟨_, _, fun _ => rfl⟩
  | .envMains _ => isStepOf_always _ fun _ => rfl
  | .envTacho => isStepOf_always _ fun _ => rfl
  | .envAdcSetpoint _ => isStepOf_always _ fun _ => rfl
  | .envAdcShunt0 _ => isStepOf_always _ fun _ => rfl
  | .envAdcShunt1 _ => isStepOf_always _ fun _ => rfl
  | .envAdcMottemp _ => isStepOf_always _ fun _ => rfl
  | .envAdcDietemp _ => isStepOf_always _ fun _ => rfl
  | .envAfeFail => isStepOf_always _ fun _ => rfl
  | .envRtfault _ => isStepOf_always _ fun _ => rfl
  | .irqMains => ⟨_, _, fun _ => rfl⟩
  | .irqTacho => ⟨_, _, fun _ => rfl⟩
  | .irqPulse => ⟨_, _, fun _ => rfl⟩
  | .irqUart => ⟨_, _, fun _ => rfl⟩
  | .mainStep => ⟨_, _, fun _ => rfl⟩
  | .wdtReset => ⟨_, _, fun _ => rfl⟩
  | .por => isStepOf_always _ fun _ => rfl
  | .halt => isStepOf_always _ fun _ => rfl
  | .looptime => isStepOf_always _ fun _ => rfl
  | .mains => isStepOf_always _ fun _ => rfl
  | .speed => isStepOf_always _ fun _ => rfl
  | .dispatch => isStepOf_always _ fun _ => rfl
  | .triac => isStepOf_always _ fun _ => rfl
  | .output => isStepOf_always _ fun _ => rfl
  | .wdt => isStepOf_always _ fun _ => rfl

/-- The meaning of an operation: `exec`'s, with its type (R63). -/
def meaningOf (i : Instr) : Meaning i := ⟨exec i, exec_isStepOf i⟩

end Sys2Proof.Machine
end

