-- ==== Sys2Proof/Decode.lean ====
section
/-! DEFINITION. The decoder of event words (spec 30_encoding.md R80, R81, R83, R84, R85) and of phase codes (R82),
total on every word, and the encoder written from the same tables. -/

namespace Sys2Proof

/-- The `op` field, bits [15:11] (R81). -/
def opOf (w : Word) : BitVec 5 := w.extractLsb' 11 5

/-- The `arg` field, bits [10:0] (R81). -/
def argOf (w : Word) : BitVec 11 := w.extractLsb' 0 11

/-- An operation whose `arg` must be 0 (R83, R85). -/
def decodeNoOperand (arg : BitVec 11) (i : Instr) : Option Instr :=
  if arg = 0 then some i else none

/-- An operation with `level = arg[0]`; `arg[10:1]` must be 0 (R83, R85). -/
def decodeLevel (arg : BitVec 11) (mk : Bool → Instr) : Option Instr :=
  if arg.extractLsb' 1 10 = 0 then some (mk (arg.getLsbD 0)) else none

/-- An operation with `code = arg[9:0]`; `arg[10]` must be 0 (R83, R85). -/
def decodeCode (arg : BitVec 11) (mk : AdcCode → Instr) : Option Instr :=
  if arg.getLsbD 10 = false then some (mk (arg.extractLsb' 0 10)) else none

/-- The operation map (R84); `none` is the answer "illegal" of R85. -/
def decodeEvent (w : Word) : Option Instr :=
  match (opOf w).toNat with
  | 0x01 => decodeNoOperand (argOf w) .tick
  | 0x02 => decodeLevel (argOf w) .envMains
  | 0x03 => decodeNoOperand (argOf w) .envTacho
  | 0x04 => decodeCode (argOf w) .envAdcSetpoint
  | 0x05 => decodeCode (argOf w) .envAdcShunt0
  | 0x06 => decodeCode (argOf w) .envAdcShunt1
  | 0x07 => decodeCode (argOf w) .envAdcMottemp
  | 0x08 => decodeCode (argOf w) .envAdcDietemp
  | 0x09 => decodeNoOperand (argOf w) .envAfeFail
  | 0x0A => decodeLevel (argOf w) .envRtfault
  | 0x0B => decodeNoOperand (argOf w) .irqMains
  | 0x0C => decodeNoOperand (argOf w) .irqTacho
  | 0x0D => decodeNoOperand (argOf w) .irqPulse
  | 0x0E => decodeNoOperand (argOf w) .irqUart
  | 0x0F => decodeNoOperand (argOf w) .mainStep
  | 0x10 => decodeNoOperand (argOf w) .wdtReset
  | 0x11 => decodeNoOperand (argOf w) .por
  | 0x12 => decodeNoOperand (argOf w) .halt
  | _ => none

/-- The phase codes (R82); code 7 is no phase. -/
def decodePhase (p : BitVec 3) : Option Instr :=
  match p.toNat with
  | 0 => some .looptime
  | 1 => some .mains
  | 2 => some .speed
  | 3 => some .dispatch
  | 4 => some .triac
  | 5 => some .output
  | 6 => some .wdt
  | _ => none

/-- An operation's code: an event word (format E, R81) or a phase code (format P, R82). -/
inductive Encoding where
  | event (w : Word)
  | phase (p : BitVec 3)
deriving DecidableEq, Repr

/-- The decoder on either format. -/
def decode : Encoding → Option Instr
  | .event w => decodeEvent w
  | .phase p => decodePhase p

/-- An event word from its two fields (R81). -/
def eventWord (op : BitVec 5) (arg : BitVec 11) : Word := op ++ arg

/-- The `arg` of a level operand (R83). -/
def levelArg (level : Bool) : BitVec 11 := if level then 1 else 0

/-- The `arg` of an analog code (R83). -/
def codeArg (code : AdcCode) : BitVec 11 := code.zeroExtend 11

/-- The encoder, from the tables of R82 to R84. -/
def encode : Instr → Encoding
  | .tick => .event (eventWord 0x01 0)
  | .envMains level => .event (eventWord 0x02 (levelArg level))
  | .envTacho => .event (eventWord 0x03 0)
  | .envAdcSetpoint code => .event (eventWord 0x04 (codeArg code))
  | .envAdcShunt0 code => .event (eventWord 0x05 (codeArg code))
  | .envAdcShunt1 code => .event (eventWord 0x06 (codeArg code))
  | .envAdcMottemp code => .event (eventWord 0x07 (codeArg code))
  | .envAdcDietemp code => .event (eventWord 0x08 (codeArg code))
  | .envAfeFail => .event (eventWord 0x09 0)
  | .envRtfault level => .event (eventWord 0x0A (levelArg level))
  | .irqMains => .event (eventWord 0x0B 0)
  | .irqTacho => .event (eventWord 0x0C 0)
  | .irqPulse => .event (eventWord 0x0D 0)
  | .irqUart => .event (eventWord 0x0E 0)
  | .mainStep => .event (eventWord 0x0F 0)
  | .wdtReset => .event (eventWord 0x10 0)
  | .por => .event (eventWord 0x11 0)
  | .halt => .event (eventWord 0x12 0)
  | .looptime => .phase 0
  | .mains => .phase 1
  | .speed => .phase 2
  | .dispatch => .phase 3
  | .triac => .phase 4
  | .output => .phase 5
  | .wdt => .phase 6

/-- The rows of spec/opcode_table.json of format E: `(match, mask)`, in the table's order. -/
def eventRows : List (Word × Word) := [
  (0x0800, 0xFFFF), (0x1000, 0xFFFE), (0x1800, 0xFFFF), (0x2000, 0xFC00), (0x2800, 0xFC00), (0x3000, 0xFC00),
  (0x3800, 0xFC00), (0x4000, 0xFC00), (0x4800, 0xFFFF), (0x5000, 0xFFFE), (0x5800, 0xFFFF), (0x6000, 0xFFFF),
  (0x6800, 0xFFFF), (0x7000, 0xFFFF), (0x7800, 0xFFFF), (0x8000, 0xFFFF), (0x8800, 0xFFFF), (0x9000, 0xFFFF)]

/-- The word fits the row: its bits under the mask are the row's. -/
def fitsRow (w : Word) (row : Word × Word) : Bool := w &&& row.2 == row.1

/-- The instruction the decoder reads from a table row's bits: a 16-bit event word, or a 3-bit phase code given in
one byte with its upper bits 0. -/
def decodeTableWord (nbits w : Nat) : Option Instr :=
  if nbits = 16 then (if w < 65536 then decodeEvent (BitVec.ofNat 16 w) else none)
  else if nbits ≤ 8 then (if w < 8 then decodePhase (BitVec.ofNat 3 w) else none)
  else none

end Sys2Proof
end

