-- ==== Sys2Proof/Machine/Trace.lean ====
section
/-! DEFINITION. Traces: the pseudo-operations of spec 30_encoding.md R88 and their expansion to operations, and the
taking of the next event word from a trace (R80, R81). The text form of a trace (mnemonics, number literals,
comments) is not modelled (entry 7). -/

namespace Sys2Proof.Machine

/-- A line of a trace: an operation or a pseudo-operation (R88). -/
inductive TraceLine where
  | op (i : Instr)
  | loop
  | adv (n : Nat)
  | envAdc (ch : Fin 5) (code : AdcCode)
  | tacho
  | pulse
  | rep (k : Nat) (body : List TraceLine)
deriving Repr

/-- The `ENV_ADC_*` operation of a channel (R88, R94). -/
def envAdcOf (ch : Fin 5) (code : AdcCode) : Instr :=
  match ch with
  | 0 => .envAdcSetpoint code
  | 1 => .envAdcShunt0 code
  | 2 => .envAdcShunt1 code
  | 3 => .envAdcMottemp code
  | 4 => .envAdcDietemp code

mutual
/-- The expansion of one line (R88). -/
def expandLine : TraceLine → List Instr
  | .op i => [i]
  | .loop => List.replicate 7 .mainStep
  | .adv n => List.replicate n .tick
  | .envAdc ch code => [envAdcOf ch code]
  | .tacho => [.envTacho, .irqTacho]
  | .pulse => [.irqPulse]
  | .rep k body => (List.replicate k (expandTrace body)).flatten
/-- The expansion of a list of lines, in order (R88). -/
def expandTrace : List TraceLine → List Instr
  | [] => []
  | l :: rest => expandLine l ++ expandTrace rest
end

/-- `ml_pc` after one operation that is enabled: `MAIN_STEP` advances it, a reset sets it to 0 (R281, R41). -/
def pcAfter (pc : Fin 7) : Instr → Fin 7
  | .mainStep => pc + 1
  | .wdtReset => 0
  | .por => 0
  | _ => pc

mutual
/-- `LOOP` is legal only where `ml_pc = 0` (R88): the phase index after the line, or none where it is illegal. -/
def lineLegal (pc : Fin 7) : TraceLine → Option (Fin 7)
  | .loop => if pc = 0 then some 0 else none
  | .rep k body => (List.replicate k ()).foldl (fun p _ => p.bind fun q => traceLegal q body) (some pc)
  | .op i => if i.isEvent then some (pcAfter pc i) else none
  | .adv _ => some pc
  | .envAdc _ _ => some pc
  | .tacho => some pc
  | .pulse => some pc
/-- The same of a list of lines, in order (R88). -/
def traceLegal (pc : Fin 7) : List TraceLine → Option (Fin 7)
  | [] => some pc
  | l :: rest => (lineLegal pc l).bind fun q => traceLegal q rest
end

/-- The event words of a list of operations (R80, R84); a phase has no event word (R82). -/
def traceWords (is : List Instr) : List Word :=
  is.filterMap fun i => match encode i with
    | .event w => some w
    | .phase _ => none

/-- The next event word of a trace and the rest of it (R81: one word a step). -/
def nextEvent : List Word → Option (Word × List Word)
  | [] => none
  | w :: rest => some (w, rest)

end Sys2Proof.Machine
end

