-- ==== Sys2Proof/Machine/Step.lean ====
section
/-! DEFINITION. The step: the next event word of the trace is taken, decoded and executed (spec 00_scope.md R6,
30_encoding.md R80, R81, R85, R86), under a configuration that R9 admits. -/

namespace Sys2Proof.Machine

/-- The operation an event word stands for, executed by its typed meaning (R63); an illegal word is refused (R85). -/
def runWord (w : Word) (s : State) : Host.Outcome State Fault Refusal :=
  match decodeEvent w with
  | none => .refused .illegalWord
  | some i => (meaningOf i).val s

/-- One step of the machine (R6). The order of the steps is the trace's (entry 1). -/
def step (s : State) : Host.Outcome State Fault Refusal :=
  match nextEvent s.trace with
  | none => whenAdmitted s.cfg (.refused .traceEnded)
  | some (w, rest) => whenAdmitted s.cfg (runWord w { s with trace := rest })

/-- The instruction placed as the very next step: an event word at the head of the trace; for a phase code, `ml_pc`
holding the code and `MAIN_STEP` at the head of the trace (R82, R281). Bits that are no instruction are placed as the
illegal word 0x0000 (R85). -/
def State.withFetchWord (s : State) (nbits w : Nat) : State :=
  if nbits = 16 then
    { s with trace := (if w < 65536 then BitVec.ofNat 16 w else 0x0000) :: s.trace }
  else if h : nbits ≤ 8 ∧ w < 7 then
    { s with trace := 0x7800 :: s.trace, ml := { s.ml with pc := ⟨w, h.2⟩ } }
  else { s with trace := 0x0000 :: s.trace }

end Sys2Proof.Machine
end

