-- ==== Sys2Proof/Safety.lean ====
section
/-! DEFINITION. The terms in which claims about this machine are stated: what counts as shut off, quiet or latched,
the invariants of the pulse engine and of the counters, the edges of the system state machine, and the cells no rule
reads. -/

namespace Sys2Proof.Safety

open Sys2Proof.Machine

/-- The two reset causes (R371). -/
def isReset : Instr → Bool
  | .wdtReset => true
  | .por => true
  | .tick => false
  | .envMains _ => false
  | .envTacho => false
  | .envAdcSetpoint _ => false
  | .envAdcShunt0 _ => false
  | .envAdcShunt1 _ => false
  | .envAdcMottemp _ => false
  | .envAdcDietemp _ => false
  | .envAfeFail => false
  | .envRtfault _ => false
  | .irqMains => false
  | .irqTacho => false
  | .irqPulse => false
  | .irqUart => false
  | .mainStep => false
  | .halt => false
  | .looptime => false
  | .mains => false
  | .speed => false
  | .dispatch => false
  | .triac => false
  | .output => false
  | .wdt => false

/-- The operation performs the phase whose code is `pc`: `MAIN_STEP` there, or the phase itself (R281). -/
def performs (pc : Fin 7) (i : Instr) (s : State) : Prop :=
  (i = .mainStep ∧ s.ml.pc = pc) ∨ i = Instr.phaseAt pc

/-- The large instant a step reads from this state (R116). -/
def nowOf (s : State) : Instant16 := clockInstant (foldClock s.clk)

/-- The state with the overflow flag folded in, as a step that reads the clock leaves it (R116). -/
def folded (s : State) : State := { s with clk := foldClock s.clk }

/-- Both shutoff votes are 1 (R26). -/
def bothShutOff (s : State) : Prop := s.sys.primaryShutoff = true ∧ s.sys.secondaryShutoff = true

/-- The pulse timer is disabled with no request, and the gate is clear: what `pt_cancel` leaves (R79, R195). -/
def timerQuiet (s : State) : Prop := s.pt.enabled = false ∧ s.irq.pt = false ∧ s.out.gateN = true

/-- A sticky fault: the monitor tripped in the control path, or the self-test failed (R340). -/
def latchedFault (s : State) : Prop :=
  (s.cfg.dbLimit ≤ s.sf.count ∧ (s.sys.state = .syncing ∨ s.sys.state = .running)) ∨
  (s.post.stage = .error ∧ s.sys.state = .selfTest)

/-- A machine held off: a sticky fault, both votes 1, nothing pending, the timer quiet, the relay pin at shut off
(R340). -/
def heldOff (s : State) : Prop :=
  latchedFault s ∧ bothShutOff s ∧ s.tr.pending = false ∧ timerQuiet s ∧ s.out.secN = true

/-- The pulse engine's invariant (R194, R197, R198): a request only while enabled; a count left while enabled; no
trigger pending while a sequence is armed; the gate set only in the middle of a pulse. -/
def pulseEngineOk (s : State) : Prop :=
  (s.irq.pt = true → s.pt.enabled = true) ∧
  (s.pt.enabled = true → 1 ≤ s.pt.remaining.toNat) ∧
  (s.tr.pending = true → s.pt.enabled = false) ∧
  (s.out.gateN = false → s.pt.enabled = true ∧ s.pt.phase = .gateClear)

/-- The saturating counters are in range (R20, R131). -/
def countersInRange (s : State) : Prop :=
  s.wd.count ≤ s.cfg.wdtTimeout ∧ s.se.conf ≤ s.cfg.confMax ∧ s.sf.count ≤ s.cfg.dbLimit

/-- Before the first path check: `Startup`, or the self-test's first stage (R271, R284, R374). -/
def beforePathChecks (s : State) : Prop :=
  s.sys.state = .startup ∨ (s.sys.state = .selfTest ∧ s.post.stage = .checkIdle)

/-- Before the first path check nothing can fire: both votes 1, nothing pending, the timer quiet, the relay pin at
shut off (R374). -/
def noEarlyFire (s : State) : Prop :=
  beforePathChecks s → bothShutOff s ∧ s.tr.pending = false ∧ timerQuiet s ∧ s.out.secN = true

/-- In `SelfTest` the stage is not `Done`: the hand-over is in the call that enters it (R270). -/
def handedOver (s : State) : Prop := s.sys.state = .selfTest → s.post.stage ≠ .done

/-- The condition of `Running`: a setpoint at or above the threshold and a speed reading (R287). -/
def runCondition (s : State) : Prop :=
  s.cfg.spRunThreshold.toInt ≤ (setpoint (mainView s)).toInt ∧ getSpeed (mainView s) ≠ none

/-- The cells no rule reads, cleared: the two shunt-current channels and the loop runtime (R25, R282, R313). -/
def eraseUnread (s : State) : State :=
  { s with
    inp := { s.inp with adc := (s.inp.adc.set 1 none).set 2 none }
    ml := { s.ml with diagLoopRuntime := 0 } }

/-- Two outcomes that differ at most in the cells no rule reads. -/
def sameUpToUnread : Host.Outcome State Fault Refusal → Host.Outcome State Fault Refusal → Prop
  | .next a, .next b => eraseUnread a = eraseUnread b
  | .refused r, .refused q => r = q
  | .fault f, .fault g => f = g
  | _, _ => False

/-- `n` ticks in a row, stopping where one is not enabled. -/
def tickTimes : Nat → State → Host.Outcome State Fault Refusal
  | 0, s => .next s
  | n + 1, s =>
    match exec .tick s with
    | .next t => tickTimes n t
    | .fault f => .fault f
    | .refused r => .refused r

/-- The "enabled when" column of R84. A phase alone is the body of a `MAIN_STEP` and carries no condition of its own
(entry 10). -/
def enabledWhen : Instr → State → Prop
  | .tick, s => s.wd.count < s.cfg.wdtTimeout
  | .envMains _, _ => True
  | .envTacho, _ => True
  | .envAdcSetpoint _, _ => True
  | .envAdcShunt0 _, _ => True
  | .envAdcShunt1 _, _ => True
  | .envAdcMottemp _, _ => True
  | .envAdcDietemp _, _ => True
  | .envAfeFail, _ => True
  | .envRtfault _, _ => True
  | .irqMains, s => s.wd.halted = false
  | .irqTacho, s => s.irq.tacho = true ∧ s.wd.halted = false
  | .irqPulse, s => s.irq.pt = true ∧ s.wd.halted = false
  | .irqUart, s => s.wd.halted = false
  | .mainStep, s => s.wd.halted = false
  | .wdtReset, s => s.cfg.wdtTimeout ≤ s.wd.count
  | .por, _ => True
  | .halt, _ => True
  | .looptime, _ => True
  | .mains, _ => True
  | .speed, _ => True
  | .dispatch, _ => True
  | .triac, _ => True
  | .output, _ => True
  | .wdt, _ => True

/-- The state `pt_cancel` leaves (R195). -/
def cancelled (s : State) : State :=
  { s with pt := { s.pt with enabled := false, remaining := 0 }
           irq := { s.irq with pt := false }
           out := { s.out with gateN := true } }

/-- The state `pt_arm` leaves (R194). -/
def armed (s : State) (ocr : Instant8) (count : Byte) : State :=
  { s with pt := { enabled := true, ocr := ocr, phase := .gateSet, remaining := count }
           irq := { s.irq with pt := false } }

/-- A sensed zero-crossing at the next `MAINS` phase: a rise, while unsynchronized or at least the minimum spacing
after the reference (R152 to R154). -/
def sensedCrossing (s : State) : Prop :=
  (s.inp.mains = true ∧ s.ms.prevPin = false) ∧
  (s.ms.phase = .unsynchronized ∨
    (s.ms.phase = .negativeHalfwave ∧ iGe (nowOf s) (iAdd s.ms.ref s.cfg.mainsMinSpacing) = true))

/-- A computed zero-crossing at the next `MAINS` phase: the positive half-wave has lasted its duration (R155). -/
def timedCrossing (s : State) : Prop :=
  s.ms.phase = .positiveHalfwave ∧ iGe (nowOf s) (iAdd s.ms.ref s.cfg.halfWaveDur) = true

/-- The control tick is due in the next `DISPATCH` phase (R283). -/
def controlTickDue (s : State) : Prop :=
  (s.sys.hkArmed = true ∨ s.ms.transition = true) ∧ iGe (nowOf s) (iAdd s.ms.ref s.cfg.ctrlOffset) = true

/-- `hk_armed` after a `DISPATCH` phase (R283). -/
def detectorAfter (s : State) : Bool := hkArmedNow (mainView s) && !hkDue (nowOf s) (mainView s)

/-- The control path runs: `Syncing` or `Running` (R283). -/
def inControlPath (s : State) : Prop := s.sys.state = .syncing ∨ s.sys.state = .running

/-- The time since the start of the half-wave, as `TRIAC` reads it (R186). -/
def elapsedOf (s : State) : Nat := (nowOf s - s.ms.ref).toNat

/-- The effective offset (R189). -/
def effOf (s : State) : Nat := max s.tr.offset.toNat (elapsedOf s + 1)

/-- `TRIAC` has a trigger to serve: not shut off, and pending or just marked pending (R187, R188). -/
def triggerToServe (s : State) : Prop :=
  s.sys.primaryShutoff = false ∧ (s.ms.transition = true ∨ s.tr.pending = true)

/-- The state in which `TRIAC` serves the trigger: the clock folded, and cancelled on a transition (R188). -/
def triggerBase (s : State) : State := if s.ms.transition then cancelled (folded s) else folded s

end Sys2Proof.Safety
end

