-- ==== Sys2Proof/Certificates/Slice0/Obligations.lean ====
section
/-! DEFINITION. The statements about the model, for the provers. -/

open Sys2Proof Sys2Proof.Machine Sys2Proof.Safety

/-! ## Encoding -/

/-- R81 to R84: decoding the code of an operation gives it back, whatever its operand. -/
def Obligations.DecodeInvertsEncode : Prop := ∀ i : Instr, decode (encode i) = some i

/-- R81 to R85: each legal word and each phase code has one meaning, and only events have a word. -/
def Obligations.LegalCodeHasOneMeaning : Prop :=
  (∀ (w : Word) (i : Instr), decodeEvent w = some i → encode i = .event w ∧ i.isEvent = true) ∧
  (∀ (p : BitVec 3) (i : Instr), decodePhase p = some i → encode i = .phase p ∧ i.isEvent = false)

/-- R85: exactly the words whose `op` is not in the map, or that have a must-be-zero bit of `arg` set, are illegal;
a trace with such a word at its head is refused. -/
def Obligations.IllegalWordsRefused : Prop :=
  (∀ w : Word, decodeEvent w = none ↔
    (w.toNat / 2048 = 0 ∨ 0x13 ≤ w.toNat / 2048) ∨
    ((w.toNat / 2048 = 0x02 ∨ w.toNat / 2048 = 0x0A) ∧ 2 ≤ w.toNat % 2048) ∨
    ((0x04 ≤ w.toNat / 2048 ∧ w.toNat / 2048 ≤ 0x08) ∧ 1024 ≤ w.toNat % 2048) ∨
    ((w.toNat / 2048 = 0x01 ∨ w.toNat / 2048 = 0x03 ∨ w.toNat / 2048 = 0x09 ∨
      (0x0B ≤ w.toNat / 2048 ∧ w.toNat / 2048 ≤ 0x12)) ∧ w.toNat % 2048 ≠ 0)) ∧
  (∀ (s : State) (w : Word) (rest : List Word), s.cfg.wf = true → s.trace = w :: rest → decodeEvent w = none →
    step s = .refused .illegalWord)

/-- R84: words of the operation map, with an operand where the operation has one, decode to their operations. -/
def Obligations.DecodesMapWords : Prop :=
  decodeEvent 0x0800 = some .tick ∧ decodeEvent 0x1001 = some (.envMains true) ∧
  decodeEvent 0x1800 = some .envTacho ∧ decodeEvent 0x2200 = some (.envAdcSetpoint 512) ∧
  decodeEvent 0x2801 = some (.envAdcShunt0 1) ∧ decodeEvent 0x33FF = some (.envAdcShunt1 1023) ∧
  decodeEvent 0x392C = some (.envAdcMottemp 300) ∧ decodeEvent 0x4002 = some (.envAdcDietemp 2) ∧
  decodeEvent 0x4800 = some .envAfeFail ∧ decodeEvent 0x5000 = some (.envRtfault false) ∧
  decodeEvent 0x5800 = some .irqMains ∧ decodeEvent 0x6000 = some .irqTacho ∧
  decodeEvent 0x6800 = some .irqPulse ∧ decodeEvent 0x7000 = some .irqUart ∧
  decodeEvent 0x7800 = some .mainStep ∧ decodeEvent 0x8000 = some .wdtReset ∧
  decodeEvent 0x8800 = some .por ∧ decodeEvent 0x9000 = some .halt ∧
  decodePhase 0 = some .looptime ∧ decodePhase 3 = some .dispatch ∧ decodePhase 6 = some .wdt ∧
  decodePhase 7 = none

/-! ## The step -/

/-- R6, R80, R81: a step runs the operation that the word at the head of the trace decodes to, with that word taken
off the trace and nothing else changed around it. -/
def Obligations.StepRunsDecodedEvent : Prop :=
  ∀ (s : State) (w : Word) (rest : List Word) (i : Instr), s.cfg.wf = true → s.trace = w :: rest →
    decodeEvent w = some i → step s = exec i { s with trace := rest }

/-- Where `step` has no operation to run. The model's choice (log entries 1 and 5): a configuration that R9 does not
admit is refused at every step, and at the end of the trace there is no step. -/
def Obligations.StepWithoutOperation : Prop :=
  (∀ s : State, s.cfg.wf = false → step s = .refused .invalidConfig) ∧
  (∀ s : State, s.cfg.wf = true → s.trace = [] → step s = .refused .traceEnded)

/-- R84, R86: an operation that has a word completes exactly when its "enabled when" condition holds, and is refused
otherwise; a step on its word likewise. No operation faults. -/
def Obligations.EnabledExactlyAsMapped : Prop :=
  (∀ (i : Instr) (s : State), i.isEvent = true → enabledWhen i s → ∃ t, exec i s = .next t) ∧
  (∀ (i : Instr) (s : State), i.isEvent = true → ¬ enabledWhen i s → exec i s = .refused .stepDisabled) ∧
  (∀ (s : State) (w : Word) (rest : List Word) (i : Instr), s.cfg.wf = true → s.trace = w :: rest →
    decodeEvent w = some i →
    (enabledWhen i s → ∃ t, step s = .next t) ∧ (¬ enabledWhen i s → step s = .refused .stepDisabled))

/-- R20, R38, R81, R372: every step keeps the configuration and takes one word of the trace. -/
def Obligations.ConfigKeptTraceConsumed : Prop :=
  (∀ (i : Instr) (s t : State), exec i s = .next t → t.cfg = s.cfg ∧ t.trace = s.trace) ∧
  (∀ s t : State, step s = .next t → t.cfg = s.cfg ∧ t.trace = s.trace.tail)

/-! ## Time base, environment, halt, reset -/

/-- R310: `TICK`, whole: the counter, its overflow flag, the compare match, the watchdog count; nothing else. -/
def Obligations.TickResult : Prop :=
  ∀ s : State,
    (s.wd.count < s.cfg.wdtTimeout → ∃ (tov pt : Bool) (tcnt : Byte),
      exec .tick s = .next { s with clk := { s.clk with tcnt := tcnt, tov := tov }, irq := { s.irq with pt := pt },
                                    wd := { s.wd with count := s.wd.count + 1 } } ∧
      tcnt.toNat = (s.clk.tcnt.toNat + 1) % 256 ∧
      (tov = true ↔ s.clk.tov = true ∨ s.clk.tcnt.toNat = 255) ∧
      (pt = true ↔ s.irq.pt = true ∨ (s.pt.enabled = true ∧ tcnt = s.pt.ocr))) ∧
    (s.cfg.wdtTimeout ≤ s.wd.count → exec .tick s = .refused .stepDisabled)

/-- R311, R312, R314, R315: the two input levels take the level given, an edge sets the request, a failure sets the
latched flag; nothing else changes, so a second edge before the handler merges with the first. -/
def Obligations.InputEvents : Prop :=
  ∀ (level : Bool) (s : State),
    exec (.envMains level) s = .next { s with inp := { s.inp with mains := level } } ∧
    exec (.envRtfault level) s = .next { s with inp := { s.inp with rtfault := level } } ∧
    exec .envTacho s = .next { s with irq := { s.irq with tacho := true } } ∧
    exec .envAfeFail s = .next { s with inp := { s.inp with afeFailure := true } }

/-- R313: each conversion stores its code in its own channel; the other channels and cells are unchanged. -/
def Obligations.ConversionsStored : Prop :=
  ∀ (code : AdcCode) (s : State) (k : Fin 5) (i : Instr),
    (k, i) ∈ [(0, Instr.envAdcSetpoint code), (1, .envAdcShunt0 code), (2, .envAdcShunt1 code),
              (3, .envAdcMottemp code), (4, .envAdcDietemp code)] →
    ∃ adc : Vector (Option AdcCode) 5, exec i s = .next { s with inp := { s.inp with adc := adc } } ∧
      adc[k] = some code ∧ ∀ j : Fin 5, j ≠ k → adc[j] = s.inp.adc[j]

/-- R314, R313, R341: without a reset the failure flag stays 1, the halt stays, and a channel that has a result never
returns to none. -/
def Obligations.LatchesUntilReset : Prop :=
  ∀ (i : Instr) (s t : State), exec i s = .next t → isReset i = false →
    (s.inp.afeFailure = true → t.inp.afeFailure = true) ∧
    (s.wd.halted = true → t.wd.halted = true) ∧
    (∀ k : Fin 5, s.inp.adc[k] ≠ none → t.inp.adc[k] ≠ none)

/-- R337, R338: `IRQ_MAINS` and `IRQ_UART` change no cell; they run while the core is not halted. -/
def Obligations.IdleHandlers : Prop :=
  ∀ s : State,
    (s.wd.halted = false → exec .irqMains s = .next s ∧ exec .irqUart s = .next s) ∧
    (s.wd.halted = true → exec .irqMains s = .refused .stepDisabled ∧ exec .irqUart s = .refused .stepDisabled)

/-- R341: `HALT` sets `ml_halted` alone, so the outputs keep their levels; after it no main-loop step and no handler
is enabled, every other operation of the map runs as before, and once the watchdog has expired `TICK` no longer
does. -/
def Obligations.HaltStopsCore : Prop :=
  ∀ s : State, ∃ t : State, exec .halt s = .next t ∧ t = { s with wd := { s.wd with halted := true } } ∧
    (∀ i ∈ [Instr.mainStep, .irqMains, .irqTacho, .irqPulse, .irqUart], exec i t = .refused .stepDisabled) ∧
    (∀ i ∉ [Instr.mainStep, .irqMains, .irqTacho, .irqPulse, .irqUart], i.isEvent = true → enabledWhen i s →
      ∃ u, exec i t = .next u) ∧
    (s.cfg.wdtTimeout ≤ s.wd.count → exec .tick t = .refused .stepDisabled)

/-- R41, R316, R343, R371: both resets write every cell with its reset value, but for the two input levels, which keep
theirs; `POR` is always enabled, `WDT_RESET` once the watchdog has expired. The configuration is kept (R372). -/
def Obligations.ResetsWriteEveryCell : Prop :=
  ∀ s : State, ∃ t : State,
    t = { clk := { tcnt := 0, tov := false, hi := 0 }
          wd := { count := 0, halted := false }
          inp := { mains := s.inp.mains, rtfault := s.inp.rtfault, adc := Vector.replicate 5 none,
                   afeFailure := false }
          irq := { tacho := false, pt := false }
          ml := { pc := 0, lastStart := 0, diagLoopRuntime := 0 }
          sys := { state := .startup, t0 := 0, primaryShutoff := true, secondaryShutoff := true, hkArmed := false }
          ms := { phase := .unsynchronized, ref := 0, prevPin := true, transition := false }
          cap := { new := false, ts := 0 }
          se := { lastEdge := 0, win := Vector.replicate 4 0, widx := 0, conf := 0, filt := 0 }
          out := { gateN := true, secN := true }
          tr := { pending := false, offset := 0xFFFF }
          pt := { enabled := false, ocr := 0, phase := .gateSet, remaining := 0 }
          ctl := { i := 0, prevE := 0, out := 0 }
          tm := { filt := Vector.replicate 2 0, shutoff := Vector.replicate 2 false }
          sf := { count := 0, lastCheck := 0, lastZc := 0, hist := Vector.replicate 9 0, hidx := 0 }
          post := { stage := .checkIdle, t0 := 0 }
          cfg := s.cfg
          trace := t.trace } ∧
    exec .por s = .next t ∧
    (s.cfg.wdtTimeout ≤ s.wd.count → exec .wdtReset s = .next t) ∧
    (s.wd.count < s.cfg.wdtTimeout → exec .wdtReset s = .refused .stepDisabled)

/-- R316, R374: the machine right after reset: both levels 0, the loop at phase 0, `Startup`, both votes 1, both pins at
their safe levels, no trigger, no confidence, the never-fire offset. -/
def Obligations.ResetStateIsSafe : Prop :=
  State.reset.inp.mains = false ∧ State.reset.inp.rtfault = false ∧ State.reset.ml.pc = 0 ∧
  State.reset.sys.state = .startup ∧ bothShutOff State.reset ∧ State.reset.out.gateN = true ∧
  State.reset.out.secN = true ∧ State.reset.tr.pending = false ∧ State.reset.tr.offset.toNat = 0xFFFF ∧
  getSpeed (mainView State.reset) = none ∧ State.reset.ms.phase = .unsynchronized ∧ State.reset.ms.prevPin = true

/-- R310, R342: without a poke, ticks go on exactly until the count reaches the timeout; then no tick is enabled and
`WDT_RESET` is. Nothing but a `WDT` phase and a reset lowers the count. -/
def Obligations.WatchdogExpiresOnTime : Prop :=
  (∀ (s : State) (n : Nat), s.wd.count ≤ s.cfg.wdtTimeout →
    (s.wd.count + n ≤ s.cfg.wdtTimeout → ∃ t, tickTimes n s = .next t ∧ t.wd.count = s.wd.count + n ∧
      (s.wd.count + n = s.cfg.wdtTimeout → enabledWhen .wdtReset t ∧ ¬ enabledWhen .tick t)) ∧
    (s.cfg.wdtTimeout < s.wd.count + n → tickTimes n s = .refused .stepDisabled)) ∧
  (∀ (i : Instr) (s t : State), exec i s = .next t → isReset i = false → ¬ performs 6 i s →
    s.wd.count ≤ t.wd.count)

/-- R116, R376: the large clock read after `n` ticks is `n` ticks on, as long as the counter wraps at most once between
two reads; after a second wrap it is 256 ticks behind. -/
def Obligations.ClockCountsTicks : Prop :=
  ∀ (s t : State) (n : Nat), s.clk.tov = false → tickTimes n s = .next t →
    (s.clk.tcnt.toNat + n < 512 → (nowOf t).toNat = ((nowOf s).toNat + n) % 65536) ∧
    (512 ≤ s.clk.tcnt.toNat + n → s.clk.tcnt.toNat + n < 768 →
      ((nowOf t).toNat + 256) % 65536 = ((nowOf s).toNat + n) % 65536)

/-! ## Handlers -/

/-- R116: `now_large` folds the overflow flag into the high byte, clears it, and answers the two bytes together; a
second call answers the same and changes nothing. A handler and a main-loop group read the same clock. -/
def Obligations.NowLargeFoldsOverflow : Prop :=
  ∀ s : State,
    (runProgram (nowLarge .irq) s).1.toNat =
      ((s.clk.hi.toNat + (if s.clk.tov then 1 else 0)) % 256) * 256 + s.clk.tcnt.toNat ∧
    (∃ hi : Byte, hi.toNat = (s.clk.hi.toNat + (if s.clk.tov then 1 else 0)) % 256 ∧
      after (nowLarge .irq) s = { s with clk := { tcnt := s.clk.tcnt, tov := false, hi := hi } }) ∧
    runProgram (nowLarge .irq) (after (nowLarge .irq) s) = runProgram (nowLarge .irq) s ∧
    runProgram (nowLarge .group) s = runProgram (nowLarge .irq) s ∧
    runProgram readClock s = runProgram (nowLarge .irq) s

/-- R166, R167: `IRQ_TACHO`: with an empty record the handler's instant is captured, with a full one the record is
kept; the request is cleared either way. -/
def Obligations.TachoCaptureKeepsOldest : Prop :=
  ∀ s : State, s.irq.tacho = true → s.wd.halted = false →
    (s.cap.new = false → exec .irqTacho s = .next { folded s with
      irq := { s.irq with tacho := false }, cap := { new := true, ts := nowOf s } }) ∧
    (s.cap.new = true → exec .irqTacho s = .next { folded s with irq := { s.irq with tacho := false } })

/-- R197: `IRQ_PULSE`: the gate is set, or cleared with one pulse less to go; the timer is set one pulse width ahead of
the counter while anything is left to do, and disabled after the last clear. -/
def Obligations.PulseHandlerTogglesGate : Prop :=
  ∀ s : State, s.irq.pt = true → s.wd.halted = false →
    (s.pt.phase = .gateSet → exec .irqPulse s = .next { s with
      irq := { s.irq with pt := false }, out := { s.out with gateN := false },
      pt := { s.pt with phase := .gateClear, ocr := s.clk.tcnt + s.cfg.pulseWidth } }) ∧
    (s.pt.phase = .gateClear → 2 ≤ s.pt.remaining.toNat → exec .irqPulse s = .next { s with
      irq := { s.irq with pt := false }, out := { s.out with gateN := true },
      pt := { s.pt with phase := .gateSet, remaining := s.pt.remaining - 1,
                        ocr := s.clk.tcnt + s.cfg.pulseWidth } }) ∧
    (s.pt.phase = .gateClear → s.pt.remaining.toNat = 1 → exec .irqPulse s = .next { s with
      irq := { s.irq with pt := false }, out := { s.out with gateN := true },
      pt := { s.pt with enabled := false, remaining := 0 } })

/-- R196, R197, R199: after the handler has set the gate, the request to clear it comes exactly one pulse width
later, and the gate stays set until its handler runs. -/
def Obligations.PulseLastsPulseWidth : Prop :=
  ∀ (s t u : State) (n : Nat), 1 ≤ s.cfg.pulseWidth.toNat → s.pt.enabled = true → s.pt.phase = .gateSet →
    exec .irqPulse s = .next t → tickTimes n t = .next u →
    (u.irq.pt = true ↔ s.cfg.pulseWidth.toNat ≤ n) ∧ u.out.gateN = false ∧ u.pt.phase = .gateClear

/-! ## The main loop's plain phases -/

/-- R281: `MAIN_STEP` performs the phase whose code is `ml_pc` and advances `ml_pc` modulo 7; a halted core takes no
`MAIN_STEP`; no other step writes `ml_pc`, but for a reset, which sets it to 0 (R36). -/
def Obligations.MainStepPerformsPhase : Prop :=
  (∀ s : State,
    (s.wd.halted = false → ∃ (t : State) (pc : Fin 7), exec (Instr.phaseAt s.ml.pc) s = .next t ∧
      exec .mainStep s = .next { t with ml := { t.ml with pc := pc } } ∧ pc.val = (s.ml.pc.val + 1) % 7) ∧
    (s.wd.halted = true → exec .mainStep s = .refused .stepDisabled)) ∧
  (∀ (i : Instr) (s t : State), exec i s = .next t → i ≠ .mainStep →
    (isReset i = true → t.ml.pc = 0) ∧ (isReset i = false → t.ml.pc = s.ml.pc))

/-- R282: phase `LOOPTIME`: the time since the last iteration's start, and the new start. -/
def Obligations.LooptimeMeasures : Prop :=
  ∀ s : State, exec .looptime s = .next { folded s with
    ml := { s.ml with diagLoopRuntime := nowOf s - s.ml.lastStart, lastStart := nowOf s } }

/-- R290, R291: phase `OUTPUT` drives the relay pin from the secondary vote; phase `WDT` clears the watchdog count;
nothing else changes. -/
def Obligations.OutputAndPoke : Prop :=
  ∀ s : State,
    exec .output s = .next { s with out := { s.out with secN := s.sys.secondaryShutoff } } ∧
    exec .wdt s = .next { s with wd := { s.wd with count := 0 } }

/-- Clauses 1 to 3 speak of the model's own types `Program`, `Body` and `CsToken`; that typed form of the token rule of
R63 and R345 is the model's choice (DESIGN CHOICE, log entry 9). Clause 1: an operation does what a program of its
agent's context does. Clause 2: the token exists in IRQ's context and in MAIN's group alone. Clause 3: no program of IRQ
or `TICK` (R63), and none of a group (the cells of R66's table; R63 alone would let a MAIN step's group touch them),
reads or writes a `MAIN` cell.
R20: a step that is no reset changes only the cells of its agent's context. R195, R198, R290: only `IRQ_PULSE` in its
`GateSet` phase sets the gate; only `IRQ_PULSE`, the `TRIAC` phase's cancel and a reset clear it; the relay pin is
written only by the `OUTPUT` phase and by a reset. -/
def Obligations.PinsHaveTheirWriters : Prop :=
  (∀ i : Instr, ∃ body : Body i, ∀ s t : State, exec i s = .next t → t = perform i body s) ∧
  (∀ c : Context, CsToken c → c = .irq ∨ c = .group) ∧
  (∀ (c : Context) (p : Program c Unit) (v : MainCells) (s : State), c = .irq ∨ c = .group ∨ c = .timebase →
    after p (putMain v s) = putMain v (after p s)) ∧
  ∀ (i : Instr) (s t : State), exec i s = .next t →
    (isReset i = false →
      (i.agent ≠ .main → mainCells t = mainCells s) ∧
      (i.agent = .main → t.inp = s.inp ∧ t.irq.tacho = s.irq.tacho ∧ t.wd.halted = s.wd.halted ∧
        t.clk.tcnt = s.clk.tcnt) ∧
      (i.agent = .irq → t.inp = s.inp ∧ t.wd = s.wd ∧ t.clk.tcnt = s.clk.tcnt) ∧
      (i.agent = .env → sharedCells t = sharedCells s ∧ t.wd.count = s.wd.count ∧ t.clk.tcnt = s.clk.tcnt) ∧
      (i.agent = .timebase → t.inp = s.inp ∧ t.irq.tacho = s.irq.tacho ∧ t.wd.halted = s.wd.halted ∧
        t.clk.hi = s.clk.hi ∧ t.out = s.out ∧ t.cap = s.cap ∧ t.pt = s.pt)) ∧
    (s.out.gateN = true → t.out.gateN = false → i = .irqPulse ∧ s.pt.phase = .gateSet) ∧
    (s.out.gateN = false → t.out.gateN = true → i = .irqPulse ∨ performs 4 i s ∨ isReset i = true) ∧
    (t.out.secN ≠ s.out.secN → performs 5 i s ∨ isReset i = true)

/-! ## MainsSync -/

/-- R158: phase `MAINS`, whole: a sensed crossing starts the positive half-wave now; a timed one starts the negative
half-wave one duration after the reference; otherwise only the sample is kept. -/
def Obligations.MainsPhaseTracks : Prop :=
  ∀ s : State, ∃ m : MainsSync, exec .mains s = .next { folded s with ms := m } ∧ m.prevPin = s.inp.mains ∧
    (sensedCrossing s → m.phase = .positiveHalfwave ∧ m.ref = nowOf s ∧ m.transition = true) ∧
    (timedCrossing s →
      m.phase = .negativeHalfwave ∧ m.ref = s.ms.ref + s.cfg.halfWaveDur ∧ m.transition = true) ∧
    (¬ sensedCrossing s → ¬ timedCrossing s →
      m.phase = s.ms.phase ∧ m.ref = s.ms.ref ∧ m.transition = false)

/-- R159: the reference moves only by a reset or in a `MAINS` phase, there only by the first synchronising edge, by an
edge at least the minimum spacing past it, or by exactly one half-wave duration that has elapsed. -/
def Obligations.ReferenceAdvancesDebounced : Prop :=
  ∀ (i : Instr) (s t : State), exec i s = .next t → t.ms.ref ≠ s.ms.ref →
    isReset i = true ∨
    (performs 1 i s ∧
      ((s.ms.phase = .unsynchronized ∧ s.inp.mains = true ∧ s.ms.prevPin = false ∧ t.ms.ref = nowOf s) ∨
       (s.ms.phase = .negativeHalfwave ∧ s.inp.mains = true ∧ s.ms.prevPin = false ∧ t.ms.ref = nowOf s ∧
         0 ≤ sdelta (nowOf s) (s.ms.ref + s.cfg.mainsMinSpacing)) ∨
       (s.ms.phase = .positiveHalfwave ∧ t.ms.ref = s.ms.ref + s.cfg.halfWaveDur ∧
         0 ≤ sdelta (nowOf s) (s.ms.ref + s.cfg.halfWaveDur))))

/-! ## SpeedEstimator -/

/-- R168: phase `SPEED`, whole: an accepted edge, a rejected edge, a stale clock, or nothing to do. -/
def Obligations.SpeedPhaseDrains : Prop :=
  ∀ s : State, ∃ e : SpeedEstimator,
    exec .speed s = .next { folded s with cap := { s.cap with new := false }, se := e } ∧
    (s.cap.new = true → iGe s.cap.ts s.se.lastEdge = true →
      e.lastEdge = s.cap.ts ∧ e.win = s.se.win.set s.se.widx (s.cap.ts - s.se.lastEdge) ∧
      e.widx.val = (s.se.widx.val + 1) % 4 ∧ e.conf = min (s.se.conf + 1) s.cfg.confMax ∧
      (s.cfg.confThreshold ≤ e.conf → e.filt = lpStep s.se.filt (durToSpeed s.cfg (BitVec.ofNat 16
        ((e.win[0].toNat + e.win[1].toNat + e.win[2].toNat + e.win[3].toNat) / 4))) s.cfg.speedLpDiv) ∧
      (e.conf < s.cfg.confThreshold → e.filt = s.se.filt)) ∧
    (s.cap.new = true → iGe s.cap.ts s.se.lastEdge = false → e = { s.se with lastEdge := s.cap.ts }) ∧
    (s.cap.new = false → iGe (nowOf s) s.se.lastEdge = false → e = { s.se with conf := 0 }) ∧
    (s.cap.new = false → iGe (nowOf s) s.se.lastEdge = true → e = s.se)

/-- R171, R176, R178: there is a speed reading exactly when confidence is at least the threshold, which an admitted
configuration keeps at 4 (R8); one step raises confidence by at most 1, and only by an accepted edge in a `SPEED`
phase, so no value comes before four edges. -/
def Obligations.ReadingNeedsFourEdges : Prop :=
  (∀ s : State, getSpeed (mainView s) = if s.cfg.confThreshold ≤ s.se.conf then some s.se.filt else none) ∧
  (∀ c : Cfg, c.wf = true → c.confThreshold = 4) ∧
  getSpeed (mainView State.reset) = none ∧ State.reset.se.conf = 0 ∧
  (∀ (i : Instr) (s t : State), exec i s = .next t →
    t.se.conf ≤ s.se.conf + 1 ∧
    (s.se.conf < t.se.conf → performs 2 i s ∧ s.cap.new = true ∧ iGe s.cap.ts s.se.lastEdge = true))

/-! ## TriacScheduler -/

/-- R186: phase `TRIAC`, whole: shut off; nothing to serve; never fire; arm; or stay pending. -/
def Obligations.TriacPhaseSchedules : Prop :=
  ∀ s : State,
    (s.sys.primaryShutoff = true →
      exec .triac s = .next { cancelled (folded s) with tr := { s.tr with pending := false } }) ∧
    (s.sys.primaryShutoff = false → s.ms.transition = false → s.tr.pending = false →
      exec .triac s = .next (folded s)) ∧
    (triggerToServe s → s.cfg.maxOffset.toNat < effOf s →
      exec .triac s = .next { cancelled (folded s) with tr := { s.tr with pending := false } }) ∧
    (triggerToServe s → effOf s ≤ s.cfg.maxOffset.toNat → effOf s - elapsedOf s ≤ s.cfg.shortArmMax.toNat →
      exec .triac s = .next
        { armed (triggerBase s) (BitVec.ofNat 8 (s.ms.ref.toNat + effOf s))
            (BitVec.ofNat 8 (pulseCount s.cfg (effOf s))) with tr := { s.tr with pending := false } }) ∧
    (triggerToServe s → effOf s ≤ s.cfg.maxOffset.toNat → s.cfg.shortArmMax.toNat < effOf s - elapsedOf s →
      exec .triac s = .next { triggerBase s with tr := { s.tr with pending := true } })

/-- R185, R191, R196: a trigger that `TRIAC` arms requests its handler exactly at the effective offset: as many ticks
later as the offset lies past the time already elapsed, and not before. -/
def Obligations.ArmedTriggerFiresOnTime : Prop :=
  ∀ (s t u : State) (n : Nat), s.cfg.shortArmMax.toNat ≤ 127 → triggerToServe s →
    effOf s ≤ s.cfg.maxOffset.toNat → effOf s - elapsedOf s ≤ s.cfg.shortArmMax.toNat →
    exec .triac s = .next t → tickTimes n t = .next u →
    (u.irq.pt = true ↔ effOf s ≤ elapsedOf s + n) ∧ t.pt.phase = .gateSet ∧ t.pt.enabled = true

/-- R79, R195, R187: with the primary path shut off, `TRIAC` leaves the timer quiet; a quiet timer stays quiet through
every step but a `TRIAC` phase, and while it is quiet `IRQ_PULSE` is not enabled. -/
def Obligations.CancelledStaysQuiet : Prop :=
  (∀ s t : State, s.sys.primaryShutoff = true → exec .triac s = .next t → timerQuiet t) ∧
  (∀ (i : Instr) (s t : State), timerQuiet s → exec i s = .next t → timerQuiet t ∨ performs 4 i s) ∧
  (∀ s : State, timerQuiet s → exec .irqPulse s = .refused .stepDisabled)

/-- R192: the retrigger count is at least 1 and never rises as the offset moves from an edge of the half-wave toward its
centre; R9 item 4: it is at most 255; R193: the reference form is the formula given. The function's form as plain data
is the model's choice (log entry 3). -/
def Obligations.PulseCountTapers : Prop :=
  ∀ (c : Cfg) (a b : Nat), 1 ≤ pulseCount c a ∧ (c.pulseCountOk = true → pulseCount c a ≤ 255) ∧
    (a ≤ c.halfWaveDur.toNat → b ≤ c.halfWaveDur.toNat →
      min a (c.halfWaveDur.toNat - a) ≤ min b (c.halfWaveDur.toNat - b) → pulseCount c b ≤ pulseCount c a) ∧
    (∀ (edgeZone extraMax d : Nat), c.pulseCountFn = .reference edgeZone extraMax →
      d = (if c.halfWaveDur.toNat < a then 0 else min a (c.halfWaveDur.toNat - a)) →
      (edgeZone ≤ d → pulseCount c a = 1) ∧
      (d < edgeZone → pulseCount c a = 1 + (edgeZone - d) * extraMax / edgeZone))

/-- The pulse engine's invariant, kept by every step (R194, R197, R198). -/
def Obligations.PulseEngineInvariant : Prop :=
  ∀ s t : State, pulseEngineOk s → step s = .next t → pulseEngineOk t

/-! ## Controller -/

/-- R212 to R218: `ctrl_step`: error, the three terms, the clamped or cleared integral, the saturated sum. -/
def Obligations.ControllerStep : Prop :=
  ∀ (sp : Q) (speed : Option Q) (syncing : Bool) (v : MainView), (syncing = false → speed ≠ none) →
    ∃ (y : Q) (k : Controller), ctrlStep sp speed syncing v = { v with ctl := k } ∧
      (syncing = true → y = curveEval v.cfg.sp2SpeedCurve sp ∧ k.i = 0) ∧
      (syncing = false → speed = some y ∧ k.i.toInt =
        min (max (qadd v.ctl.i (qmul v.cfg.ki (qsub sp y))).toInt (curveEval v.cfg.ilimNegCurve y).toInt)
          (curveEval v.cfg.ilimPosCurve y).toInt) ∧
      k.prevE = qsub sp y ∧
      k.out = qadd (qadd (qmul v.cfg.kp (qsub sp y)) k.i) (qmul v.cfg.kd (qsub (qsub sp y) v.ctl.prevE))

/-- R219: the anti-windup law: after every control tick of an admitted configuration the integral lies within the
limits of that tick's speed, whatever it held before; while syncing it is 0. -/
def Obligations.AntiWindup : Prop :=
  (∀ (sp y : Q) (v : MainView), v.cfg.wf = true →
    (curveEval v.cfg.ilimNegCurve y).toInt ≤ (ctrlStep sp (some y) false v).ctl.i.toInt ∧
    (ctrlStep sp (some y) false v).ctl.i.toInt ≤ (curveEval v.cfg.ilimPosCurve y).toInt) ∧
  (∀ (sp : Q) (speed : Option Q) (v : MainView), (ctrlStep sp speed true v).ctl.i = 0) ∧
  (∀ s t : State, s.cfg.wf = true → inControlPath s → controlTickDue s → exec .dispatch s = .next t →
    (t.sys.state = .syncing ∧ t.ctl.i = 0) ∨
    ∃ v, getSpeed (mainView s) = some v ∧ (curveEval s.cfg.ilimNegCurve v).toInt ≤ t.ctl.i.toInt ∧
      t.ctl.i.toInt ≤ (curveEval s.cfg.ilimPosCurve v).toInt)

/-! ## TempMonitor -/

/-- R226 to R231: `temp_step` writes the temperature cells alone; of each channel: no result, a code outside the table,
or a reading through the filter and the hysteresis; the bounds themselves keep the vote. R127: in the table means from
the first knot to the last, both ends included. -/
def Obligations.TemperatureHysteresis : Prop :=
  (∀ (c : Curve) (x : Q) (first last : Knot) (rest init : List Knot), c = first :: rest → c = init ++ [last] →
    (curveInRange c x = true ↔ first.x.toInt ≤ x.toInt ∧ x.toInt ≤ last.x.toInt)) ∧
  ∀ (v : MainView) (k : Fin 2) (ch : Fin 5), ch.val = 3 + k.val →
    tempStep v = { v with tm := (tempStep v).tm } ∧
    (v.adc[ch] = none →
      (tempStep v).tm.filt[k] = v.tm.filt[k] ∧ (tempStep v).tm.shutoff[k] = v.tm.shutoff[k]) ∧
    (∀ code, v.adc[ch] = some code →
      (curveInRange v.cfg.temp[k].curve (codeToQ code) = false →
        (tempStep v).tm.filt[k] = v.tm.filt[k] ∧ (tempStep v).tm.shutoff[k] = true) ∧
      (curveInRange v.cfg.temp[k].curve (codeToQ code) = true →
        (tempStep v).tm.filt[k] =
          lpStep v.tm.filt[k] (curveEval v.cfg.temp[k].curve (codeToQ code)) v.cfg.temp[k].lpDiv ∧
        (v.cfg.temp[k].hi.toInt < (tempStep v).tm.filt[k].toInt →
          (tempStep v).tm.shutoff[k] = true) ∧
        ((tempStep v).tm.filt[k].toInt ≤ v.cfg.temp[k].hi.toInt →
          (tempStep v).tm.filt[k].toInt < v.cfg.temp[k].lo.toInt →
          (tempStep v).tm.shutoff[k] = false) ∧
        ((tempStep v).tm.filt[k].toInt ≤ v.cfg.temp[k].hi.toInt →
          v.cfg.temp[k].lo.toInt ≤ (tempStep v).tm.filt[k].toInt →
          (tempStep v).tm.shutoff[k] = v.tm.shutoff[k])))

/-! ## SafetyMonitor -/

/-- R253: `safety_step`, whole: the timeout bookkeeping at every call; in a due cycle the history sample and either the
trip or the two debounce steps; nothing but the monitor's cells changes. R8: the missed-cadence factor of an admitted
configuration is 5. -/
def Obligations.SafetyStepResult : Prop :=
  (∀ c : Cfg, c.wf = true → c.cadenceMissFactor = 5) ∧
  ∀ (now : Instant16) (sp speed : Q) (zc : Bool) (v : MainView), ∃ f : SafetyMonitor,
    safetyStep now sp speed zc v = { v with sf := f } ∧
    f.lastZc = (if zc then now else v.sf.lastZc) ∧
    ∀ c0 : Nat, c0 = (if iGt now (iAdd f.lastZc v.cfg.zcTimeout) then v.cfg.dbLimit else v.sf.count) →
      (iGe now (iAdd v.sf.lastCheck v.cfg.safetyPeriod) = false →
        f.lastCheck = v.sf.lastCheck ∧ f.hist = v.sf.hist ∧ f.hidx = v.sf.hidx ∧ f.count = c0) ∧
      (iGe now (iAdd v.sf.lastCheck v.cfg.safetyPeriod) = true →
        f.lastCheck = now ∧ f.hist = v.sf.hist.set v.sf.hidx sp ∧ f.hidx.val = (v.sf.hidx.val + 1) % 9 ∧
        ((iGt now (iAdd v.sf.lastCheck (BitVec.ofNat 16 (v.cfg.cadenceMissFactor * v.cfg.safetyPeriod.toNat))) = true ∨
            v.afeFailure = true ∨ v.rtfault = true) → f.count = v.cfg.dbLimit) ∧
        (iGt now (iAdd v.sf.lastCheck (BitVec.ofNat 16 (v.cfg.cadenceMissFactor * v.cfg.safetyPeriod.toNat))) = false →
          v.afeFailure = false → v.rtfault = false →
          f.count = dbNext v.cfg
            (dbNext v.cfg c0 (decide (v.cfg.speedHardLimit.toInt < speed.toInt)) true)
            (decide ((∀ i j : Fin 9, f.hist[i].toInt - f.hist[j].toInt ≤ v.cfg.spStableTol.toInt) ∧
              v.cfg.devActivation.toInt < speed.toInt ∧
              v.cfg.devTol.toInt < (qabs (qsub speed sp)).toInt)) true))

/-- R129, R130: the debounce counter: up by the large step and stuck at the limit, down by the small one and never below
0, no decrement at the limit in sticky mode, straight to the limit on a trip. -/
def Obligations.DebounceCounter : Prop :=
  ∀ (v : MainView) (sticky : Bool), v.sf.count ≤ v.cfg.dbLimit →
    (dbStep true sticky v =
      { v with sf := { v.sf with count := min (v.sf.count + v.cfg.dbInc) v.cfg.dbLimit } }) ∧
    (sticky = true → v.sf.count = v.cfg.dbLimit → dbStep false sticky v = v) ∧
    ((sticky = false ∨ v.sf.count < v.cfg.dbLimit) →
      ∃ n, dbStep false sticky v = { v with sf := { v.sf with count := n } } ∧
        (n : Int) = max ((v.sf.count : Int) - v.cfg.dbDec) 0) ∧
    (dbTrip v = { v with sf := { v.sf with count := v.cfg.dbLimit } } ∧
      dbTripped (dbTrip v) = true)

/-- R254: once the counter has reached its limit no operation but a reset lowers it; and in a due safety cycle one hard
fault drives it to the limit whatever it held before, as does a lost mains at any call. -/
def Obligations.StickyAndHardFaults : Prop :=
  (∀ (i : Instr) (s t : State), exec i s = .next t → isReset i = false → s.cfg.dbLimit ≤ s.sf.count →
    s.cfg.dbLimit ≤ t.sf.count) ∧
  (∀ s t : State, inControlPath s → exec .dispatch s = .next t →
    ((safetyCycleDue (mainView s) (nowOf s) = true ∧
        (s.inp.afeFailure = true ∨ s.inp.rtfault = true ∨ cadenceMissed (mainView s) (nowOf s) = true)) ∨
      (s.ms.transition = false ∧ mainsSyncLost (mainView s) (nowOf s) = true)) →
    s.cfg.dbLimit ≤ t.sf.count ∧ bothShutOff t)

/-! ## PowerOnSelfTest -/

/-- R267, R269, R273: a non-zero speed reading in an assert sub-phase forces `Error` within the same call, with both
votes 1; in `Error` only the detector's bit and the votes are written, for ever. -/
def Obligations.SelfTestError : Prop :=
  (∀ (s : State) (v : Q), s.sys.state = .selfTest →
    (s.post.stage = .checkIdle ∨ s.post.stage = .checkSecondaryPath ∨ s.post.stage = .checkPrimaryPath) →
    iGe (nowOf s) (iAdd s.post.t0 s.cfg.postSettle) = true → getSpeed (mainView s) = some v → v.toInt ≠ 0 →
    exec .dispatch s = .next { folded s with
      post := { s.post with stage := .error },
      sys := { s.sys with primaryShutoff := true, secondaryShutoff := true, hkArmed := detectorAfter s } }) ∧
  (∀ s : State, s.sys.state = .selfTest → s.post.stage = .error →
    exec .dispatch s = .next { folded s with
      sys := { s.sys with primaryShutoff := true, secondaryShutoff := true, hkArmed := detectorAfter s } }) ∧
  (∀ (i : Instr) (s t : State), exec i s = .next t → isReset i = false → s.sys.state = .selfTest →
    s.post.stage = .error → t.sys.state = .selfTest ∧ t.post = s.post)

/-- R268, R270, R271: at the end of a stage without a failure the next stage begins now, with that stage's outputs; the
last stage hands over to `Syncing` in the same call. -/
def Obligations.SelfTestAdvances : Prop :=
  ∀ s : State, s.sys.state = .selfTest →
    iGe (nowOf s) (iAdd s.post.t0 (s.cfg.postSettle + s.cfg.postAssert)) = true →
    ¬ (iGe (nowOf s) (iAdd s.post.t0 s.cfg.postSettle) = true ∧ ∃ v : Q, getSpeed (mainView s) = some v ∧ v.toInt ≠ 0) →
    (s.post.stage = .checkIdle → exec .dispatch s = .next { folded s with
      post := { stage := .checkSecondaryPath, t0 := nowOf s },
      sys := { s.sys with primaryShutoff := false, secondaryShutoff := true, hkArmed := detectorAfter s },
      tr := { s.tr with offset := s.cfg.postTriacOffset } }) ∧
    (s.post.stage = .checkSecondaryPath → exec .dispatch s = .next { folded s with
      post := { stage := .checkPrimaryPath, t0 := nowOf s },
      sys := { s.sys with primaryShutoff := true, secondaryShutoff := false, hkArmed := detectorAfter s } }) ∧
    (s.post.stage = .checkPrimaryPath → exec .dispatch s = .next { folded s with
      post := { stage := .done, t0 := nowOf s },
      sys := { s.sys with state := .syncing, primaryShutoff := true, secondaryShutoff := true,
                          hkArmed := detectorAfter s },
      tr := { s.tr with offset := 0xFFFF },
      sf := { s.sf with lastCheck := nowOf s, lastZc := nowOf s },
      ctl := { s.ctl with i := 0 } })

/-- R266, R271, R272: before the end of a stage, without a failure, the stage and its start stand and its outputs are
written again. -/
def Obligations.SelfTestWaits : Prop :=
  ∀ s : State, s.sys.state = .selfTest →
    iGe (nowOf s) (iAdd s.post.t0 (s.cfg.postSettle + s.cfg.postAssert)) = false →
    ¬ (iGe (nowOf s) (iAdd s.post.t0 s.cfg.postSettle) = true ∧ ∃ v : Q, getSpeed (mainView s) = some v ∧ v.toInt ≠ 0) →
    (s.post.stage = .checkIdle → exec .dispatch s = .next { folded s with
      sys := { s.sys with primaryShutoff := true, secondaryShutoff := true, hkArmed := detectorAfter s } }) ∧
    (s.post.stage = .checkSecondaryPath → exec .dispatch s = .next { folded s with
      sys := { s.sys with primaryShutoff := false, secondaryShutoff := true, hkArmed := detectorAfter s },
      tr := { s.tr with offset := s.cfg.postTriacOffset } }) ∧
    (s.post.stage = .checkPrimaryPath → exec .dispatch s = .next { folded s with
      sys := { s.sys with primaryShutoff := true, secondaryShutoff := false, hkArmed := detectorAfter s } })

/-! ## SystemOrchestrator -/

/-- R283: phase `DISPATCH` in every state: the clock folded, the control-tick detector armed by a transition and
disarmed when due, and no cell changed outside the system cells, the self-test, the controller, the temperature cells,
the trigger offset and the monitor; in the control path the self-test's cells stand too (R20, R268, R284). -/
def Obligations.DispatchDetector : Prop :=
  ∀ s : State, ∃ t : State, exec .dispatch s = .next t ∧
    t = { folded s with sys := t.sys, post := t.post, ctl := t.ctl, tm := t.tm,
                        tr := { s.tr with offset := t.tr.offset }, sf := t.sf } ∧
    t.sys.t0 = s.sys.t0 ∧ t.sys.hkArmed = detectorAfter s ∧ (inControlPath s → t.post = s.post) ∧
    (detectorAfter s = true ↔ (s.sys.hkArmed = true ∨ s.ms.transition = true) ∧ ¬ controlTickDue s)

/-- R284: `Startup`: both votes 1; at the delay the self-test begins. -/
def Obligations.DispatchStartup : Prop :=
  ∀ s : State, s.sys.state = .startup →
    (iGe (nowOf s) (iAdd s.sys.t0 s.cfg.startupDelay) = true → exec .dispatch s = .next { folded s with
      sys := { s.sys with state := .selfTest, primaryShutoff := true, secondaryShutoff := true,
                          hkArmed := detectorAfter s },
      post := { stage := .checkIdle, t0 := nowOf s } }) ∧
    (iGe (nowOf s) (iAdd s.sys.t0 s.cfg.startupDelay) = false → exec .dispatch s = .next { folded s with
      sys := { s.sys with primaryShutoff := true, secondaryShutoff := true, hkArmed := detectorAfter s } })

/-- R286, R287: after the control path the state is `Running` exactly when the setpoint is at or above the threshold and
there is a speed reading; the integral is 0 after a fallback. -/
def Obligations.RunningIsFunctionOfInputs : Prop :=
  (∀ s : State, (s.inp.adc[0] = none → setpoint (mainView s) = 0) ∧
    ∀ code, s.inp.adc[0] = some code →
      setpoint (mainView s) = curveEval s.cfg.setpointCurve (BitVec.ofNat 16 code.toNat)) ∧
  (∀ s : State, inControlPath s → ∃ t : State, exec .dispatch s = .next t ∧
    (runCondition s → t.sys.state = .running) ∧
    (¬ runCondition s → t.sys.state = .syncing ∧ (s.sys.state = .running → t.ctl.i = 0)))

/-- R220, R286, R288: the control tick, when due, runs the temperature step, the controller and the offset conversion;
when not due it leaves their cells, but for the integral of a fallback. -/
def Obligations.ControlTick : Prop :=
  ∀ s : State, inControlPath s → ∃ t : State, exec .dispatch s = .next t ∧
    (controlTickDue s → t.tm = (tempStep (mainView s)).tm ∧
      t.ctl =
        (ctrlStep (setpoint (mainView s)) (getSpeed (mainView s)) (decide (t.sys.state = .syncing)) (mainView s)).ctl ∧
      t.tr.offset.toInt = (curveEval s.cfg.trigCurve t.ctl.out).toInt) ∧
    (¬ controlTickDue s → t.tm = s.tm ∧ t.tr.offset = s.tr.offset ∧ t.ctl.prevE = s.ctl.prevE ∧
      t.ctl.out = s.ctl.out ∧ (t.ctl.i = s.ctl.i ∨ (t.ctl.i = 0 ∧ s.sys.state = .running ∧ ¬ runCondition s)))

/-- R232, R251, R289: in the control path the monitor runs, and both votes become the same OR of its verdict and, where
configured, of the temperature vote. -/
def Obligations.ShutoffIsOrOfVotes : Prop :=
  ∀ s : State, inControlPath s → ∃ t : State, exec .dispatch s = .next t ∧
    t.sf =
      (safetyStep (nowOf s) (setpoint (mainView s)) ((getSpeed (mainView s)).getD 0) s.ms.transition (mainView s)).sf ∧
    t.sys.primaryShutoff = t.sys.secondaryShutoff ∧
    (t.sys.primaryShutoff = true ↔ s.cfg.dbLimit ≤ t.sf.count ∨
      (s.cfg.tempInSafetyPath = true ∧ (t.tm.shutoff[0] = true ∨ t.tm.shutoff[1] = true)))

/-- R292: the edges of the system state machine: every change of `sys_state` is one of these. -/
def Obligations.SystemStateEdges : Prop :=
  ∀ (i : Instr) (s t : State), exec i s = .next t → t.sys.state ≠ s.sys.state →
    (isReset i = true ∧ t.sys.state = .startup) ∨
    (performs 3 i s ∧
      ((s.sys.state = .startup ∧ t.sys.state = .selfTest ∧
          iGe (nowOf s) (iAdd s.sys.t0 s.cfg.startupDelay) = true) ∨
       (s.sys.state = .selfTest ∧ t.sys.state = .syncing ∧ t.post.stage = .done) ∨
       (s.sys.state = .syncing ∧ t.sys.state = .running ∧ runCondition s) ∨
       (s.sys.state = .running ∧ t.sys.state = .syncing ∧ ¬ runCondition s)))

/-- R374: nothing fires before the first path check: the invariant that says so is kept by every step. -/
def Obligations.NoEarlyFireInvariant : Prop :=
  ∀ s t : State, noEarlyFire s ∧ handedOver s → step s = .next t → noEarlyFire t ∧ handedOver t

/-- R340: a machine held off by a sticky fault stays held off through every step but a reset, whatever the
environment, the handlers and the main loop do. -/
def Obligations.StickyFaultHoldsOff : Prop :=
  ∀ (i : Instr) (s t : State), heldOff s → exec i s = .next t → isReset i = false → heldOff t

/-- R340: from a sticky fault, the next `DISPATCH`, `TRIAC` and `OUTPUT` phases shut both paths off. -/
def Obligations.StickyFaultShutsOff : Prop :=
  ∀ s : State, latchedFault s → ∃ a b c : State, exec .dispatch s = .next a ∧ exec .triac a = .next b ∧
    exec .output b = .next c ∧ heldOff c

/-- R20, R131: the saturating counters stay in range: every step keeps the invariant. -/
def Obligations.CountersInvariant : Prop :=
  ∀ s t : State, countersInRange s → step s = .next t → countersInRange t

/-- The three invariants hold right after reset (R370). -/
def Obligations.ResetMeetsInvariants : Prop :=
  pulseEngineOk State.reset ∧ countersInRange State.reset ∧ noEarlyFire State.reset ∧ handedOver State.reset

/-- R25, R282, R313: the two shunt-current channels and the loop runtime influence nothing: two states that differ
only there take the same steps and still differ only there. -/
def Obligations.UnreadCellsDoNotMatter : Prop :=
  ∀ (i : Instr) (s s' : State), eraseUnread s = eraseUnread s' → sameUpToUnread (exec i s) (exec i s')

/-! ## Numeric primitives -/

/-- R113, R114, R375: for instants less than half the range apart, the modular ordering is the true ordering of time, on
both widths; at exactly half the range it answers false. -/
def Obligations.ModularOrderIsTrueOrder : Prop :=
  (∀ a b : Nat, a < b + 32768 → b < a + 32768 →
    (iGe (BitVec.ofNat 16 a) (BitVec.ofNat 16 b) = true ↔ b ≤ a) ∧
    (iGt (BitVec.ofNat 16 a) (BitVec.ofNat 16 b) = true ↔ b < a) ∧
    (iLt (BitVec.ofNat 16 a) (BitVec.ofNat 16 b) = true ↔ a < b)) ∧
  (∀ a b : Nat, a < b + 128 → b < a + 128 →
    (iGe (BitVec.ofNat 8 a) (BitVec.ofNat 8 b) = true ↔ b ≤ a) ∧
    (iGt (BitVec.ofNat 8 a) (BitVec.ofNat 8 b) = true ↔ b < a) ∧
    (iLt (BitVec.ofNat 8 a) (BitVec.ofNat 8 b) = true ↔ a < b)) ∧
  (∀ b : Instant16, iGe (b + 0x8000) b = false)

/-- R118 to R123: addition, subtraction, negation, absolute value, product, quotient and conversion are the exact
results, rounded as stated and saturated to the type's range. -/
def Obligations.SaturatingArithmetic : Prop :=
  ∀ a b : Q,
    (qadd a b).toInt = max (-32768) (min 32767 (a.toInt + b.toInt)) ∧
    (qsub a b).toInt = max (-32768) (min 32767 (a.toInt - b.toInt)) ∧
    (qneg a).toInt = min 32767 (-a.toInt) ∧
    (qabs a).toInt = min 32767 |a.toInt| ∧
    (∃ q : Int, 256 * q ≤ a.toInt * b.toInt ∧ a.toInt * b.toInt < 256 * q + 256 ∧
      (qmul a b).toInt = max (-32768) (min 32767 q)) ∧
    (b.toInt ≠ 0 → (qdiv a b).toInt = max (-32768) (min 32767 ((a.toInt * 256).tdiv b.toInt))) ∧
    (b.toInt = 0 → (0 < a.toInt → (qdiv a b).toInt = 32767) ∧ (a.toInt < 0 → (qdiv a b).toInt = -32768) ∧
      (a.toInt = 0 → (qdiv a b).toInt = 0)) ∧
    (∀ n : Int, (qOfInt n).toInt = max (-32768) (min 32767 (n * 256)))

/-- R126: a valid curve's value: the end values outside the table; between two knots the interpolation rounded down,
which lies between the knots' values. -/
def Obligations.CurveInterpolates : Prop :=
  ∀ (c : Curve) (x : Q), c.valid = true →
    (∀ k rest, c = k :: rest → x.toInt ≤ k.x.toInt → curveEval c x = k.y) ∧
    (∀ init k, c = init ++ [k] → k.x.toInt ≤ x.toInt → curveEval c x = k.y) ∧
    (∀ init k l rest, c = init ++ k :: l :: rest → k.x.toInt ≤ x.toInt → x.toInt < l.x.toInt →
      (curveEval c x).toInt = k.y.toInt +
        ((x.toInt - k.x.toInt) * (l.y.toInt - k.y.toInt)).fdiv (l.x.toInt - k.x.toInt) ∧
      min k.y.toInt l.y.toInt ≤ (curveEval c x).toInt ∧ (curveEval c x).toInt ≤ max k.y.toInt l.y.toInt)

/-- R128, R177: the low-pass filter rounds its quotient toward zero, so that its result lies between the old output and
the input, equals the input for the divisor 1, and stands when the input is closer than the divisor; the default
conversion of a duration is the saturated quotient, and `Q_MAX` for the duration 0. -/
def Obligations.FilterAndSpeedConversion : Prop :=
  (∀ (y x : Q) (div : Nat), 1 ≤ div →
    (lpStep y x div).toInt = y.toInt + (x.toInt - y.toInt).tdiv div ∧
    min y.toInt x.toInt ≤ (lpStep y x div).toInt ∧ (lpStep y x div).toInt ≤ max y.toInt x.toInt ∧
    (div = 1 → lpStep y x div = x) ∧ (|x.toInt - y.toInt| < div → lpStep y x div = y)) ∧
  (∀ (c : Cfg) (n : Nat) (avg : Duration16), c.speedFn = .reciprocal n →
    (avg.toNat = 0 → (durToSpeed c avg).toInt = 32767) ∧
    (avg.toNat ≠ 0 → (durToSpeed c avg).toInt = min 32767 ((n / avg.toNat : Nat) : Int)))
end

