-- ==== Sys2Proof/Laws/Operands.lean ====
section
/-! SUPPORT. The small lemmas of the arithmetic: what each operation's value is as an integer. -/

namespace Sys2Proof.Laws

open Sys2Proof.Machine

/-- Every 16-bit value lies in the signed range. -/
theorem q_range (a : Q) : -32768 ≤ a.toInt ∧ a.toInt ≤ 32767 := by
  have h1 := BitVec.le_toInt a
  have h2 := BitVec.toInt_lt (x := a)
  constructor <;> omega

/-- An integer in the signed range is represented exactly. -/
theorem ofInt16_toInt {v : Int} (h1 : -32768 ≤ v) (h2 : v ≤ 32767) : (BitVec.ofInt 16 v).toInt = v := by
  rw [BitVec.toInt_ofInt]
  exact Int.bmod_eq_of_le (by omega) (by omega)

/-- `sat16` clamps to the signed range (R118). -/
theorem sat16_toInt (v : Int) : (sat16 v).toInt = max (-32768) (min 32767 v) :=
  ofInt16_toInt (by omega) (by omega)

/-- A floored quotient by a positive number, between its bounds. -/
theorem fdiv_between {n d : Int} (hd : 0 < d) : d * n.fdiv d ≤ n ∧ n < d * n.fdiv d + d := by
  rw [Int.fdiv_eq_ediv_of_nonneg _ (by omega)]
  have h1 := Int.mul_ediv_add_emod n d
  have h2 := Int.emod_nonneg n (by omega : d ≠ 0)
  have h3 := Int.emod_lt_of_pos n hd
  constructor <;> omega

/-- A point of a segment lies between the two knots' values, and is exact (R126). -/
theorem interpolate_spec {k l : Knot} {x : Q} (h1 : k.x.toInt ≤ x.toInt) (h2 : x.toInt < l.x.toInt) :
    (interpolate k l x).toInt =
      k.y.toInt + ((x.toInt - k.x.toInt) * (l.y.toInt - k.y.toInt)).fdiv (l.x.toInt - k.x.toInt) ∧
    min k.y.toInt l.y.toInt ≤ (interpolate k l x).toInt ∧ (interpolate k l x).toInt ≤ max k.y.toInt l.y.toInt := by
  have hk := q_range k.y
  have hl := q_range l.y
  unfold interpolate
  generalize hdx : l.x.toInt - k.x.toInt = dx
  generalize hdy : l.y.toInt - k.y.toInt = dy
  generalize ha : x.toInt - k.x.toInt = a
  have hdx0 : 0 < dx := by omega
  have ha0 : 0 ≤ a := by omega
  have hadx : a < dx := by omega
  obtain ⟨hq1, hq2⟩ := fdiv_between (n := a * dy) hdx0
  generalize hq : (a * dy).fdiv dx = q at *
  have hb : min 0 dy ≤ q ∧ q ≤ max 0 dy := by
    rcases Int.le_total 0 dy with hp | hn
    · have : 0 ≤ a * dy := Int.mul_nonneg ha0 hp
      have : a * dy ≤ dx * dy := Int.mul_le_mul_of_nonneg_right (by omega) hp
      constructor
      · by_contra hc
        have : dx * (q + 1) ≤ 0 := Int.mul_nonpos_of_nonneg_of_nonpos (by omega) (by omega)
        have h3 : dx * (q + 1) = dx * q + dx := by ring
        omega
      · by_contra hc
        have h4 : dx * (dy + 1) ≤ dx * q := Int.mul_le_mul_of_nonneg_left (by omega) (by omega)
        have h5 : dx * (dy + 1) = dx * dy + dx := by ring
        omega
    · have : a * dy ≤ 0 := Int.mul_nonpos_of_nonneg_of_nonpos ha0 hn
      have : dx * dy ≤ a * dy := Int.mul_le_mul_of_nonpos_right (by omega) hn
      constructor
      · by_contra hc
        have h4 : dx * (q + 1) ≤ dx * dy := Int.mul_le_mul_of_nonneg_left (by omega) (by omega)
        have h3 : dx * (q + 1) = dx * q + dx := by ring
        omega
      · by_contra hc
        have h4 : dx * 1 ≤ dx * q := Int.mul_le_mul_of_nonneg_left (by omega) (by omega)
        omega
  rw [ofInt16_toInt (by omega) (by omega)]
  refine ⟨rfl, ?_, ?_⟩ <;> omega

/-- The evaluation from a knot on: every bound of the knots' values is a bound of the curve's. -/
theorem curveFrom_le {b : Int} {k : Knot} {rest : List Knot} {x : Q}
    (hv : Curve.rises (k :: rest) = true) (hx : k.x.toInt ≤ x.toInt)
    (hb : ∀ m ∈ k :: rest, m.y.toInt ≤ b) : (curveFrom k rest x).toInt ≤ b := by
  induction rest generalizing k with
  | nil => exact hb k (by simp)
  | cons l rest ih =>
    simp only [Curve.rises, Bool.and_eq_true, decide_eq_true_eq] at hv
    unfold curveFrom
    split
    · have := (interpolate_spec hx ‹_›).2.2
      have := hb k (by simp)
      have := hb l (by simp)
      omega
    · exact ih hv.2 (by omega) (fun m hm => hb m (by simp [List.mem_cons.1 hm]))

/-- The same for lower bounds. -/
theorem le_curveFrom {b : Int} {k : Knot} {rest : List Knot} {x : Q}
    (hv : Curve.rises (k :: rest) = true) (hx : k.x.toInt ≤ x.toInt)
    (hb : ∀ m ∈ k :: rest, b ≤ m.y.toInt) : b ≤ (curveFrom k rest x).toInt := by
  induction rest generalizing k with
  | nil => exact hb k (by simp)
  | cons l rest ih =>
    simp only [Curve.rises, Bool.and_eq_true, decide_eq_true_eq] at hv
    unfold curveFrom
    split
    · have := (interpolate_spec hx ‹_›).2.1
      have := hb k (by simp)
      have := hb l (by simp)
      omega
    · exact ih hv.2 (by omega) (fun m hm => hb m (by simp [List.mem_cons.1 hm]))

/-- R9 item 8 for the negative limit: from the knots to every value of the curve (entry 6). -/
theorem curveEval_nonpos {c : Curve} (hv : c.valid = true) (hk : c.knotsNonPos = true) (x : Q) :
    (curveEval c x).toInt ≤ 0 := by
  simp only [Curve.valid, Bool.and_eq_true, decide_eq_true_eq] at hv
  simp only [Curve.knotsNonPos, List.all_eq_true, decide_eq_true_eq] at hk
  cases c with
  | nil => simp at hv
  | cons k rest =>
    unfold curveEval
    dsimp only
    split
    · exact hk k (by simp)
    · exact curveFrom_le hv.2 (by omega) hk

/-- R9 item 8 for the positive limit: from the knots to every value of the curve (entry 6). -/
theorem curveEval_nonneg {c : Curve} (hv : c.valid = true) (hk : c.knotsNonNeg = true) (x : Q) :
    0 ≤ (curveEval c x).toInt := by
  simp only [Curve.valid, Bool.and_eq_true, decide_eq_true_eq] at hv
  simp only [Curve.knotsNonNeg, List.all_eq_true, decide_eq_true_eq] at hk
  cases c with
  | nil => simp at hv
  | cons k rest =>
    unfold curveEval
    dsimp only
    split
    · exact hk k (by simp)
    · exact le_curveFrom hv.2 (by omega) hk

/-- The pulse count is at least 1 (R192 (a)). -/
theorem one_le_pulseCount (c : Cfg) (o : Nat) : 1 ≤ pulseCount c o := by
  unfold pulseCount
  dsimp only
  split
  · split
    · exact Nat.le_refl 1
    · exact Nat.le_add_right 1 _
  · exact Nat.le_add_right 1 _

/-- Under an admitted configuration the pulse count fits one byte (R9 item 4). -/
theorem pulseCount_le {c : Cfg} (h : c.pulseCountOk = true) (o : Nat) : pulseCount c o ≤ 255 := by
  unfold pulseCount
  unfold Cfg.pulseCountOk at h
  dsimp only
  split <;> rename_i hf <;> rw [hf] at h
  · rename_i ez em
    simp only [Bool.and_eq_true, decide_eq_true_eq] at h
    split
    · omega
    · have h1 : (ez - edgeDistance c.halfWaveDur.toNat o) * em ≤ ez * em := Nat.mul_le_mul_right _ (by omega)
      have h2 := Nat.div_le_div_right (c := ez) h1
      rw [Nat.mul_div_cancel_left _ (by omega : 0 < ez)] at h2
      omega
  · rename_i limits
    simp only [decide_eq_true_eq] at h
    have := List.length_filter_le (fun t => decide (edgeDistance c.halfWaveDur.toNat o < t)) limits
    omega

/-- The debounce counter stays within its limit (R129). -/
theorem dbNext_le {c : Cfg} {n : Nat} (h : n ≤ c.dbLimit) (fault sticky : Bool) :
    dbNext c n fault sticky ≤ c.dbLimit := by
  unfold dbNext
  split
  · omega
  · split <;> omega

/-- A sticky counter at its limit stays there (R129, R254). -/
theorem dbNext_sticky {c : Cfg} {n : Nat} (h : c.dbLimit ≤ n) (fault : Bool) :
    c.dbLimit ≤ dbNext c n fault true := by
  unfold dbNext
  cases fault <;> simp [h]
  omega

end Sys2Proof.Laws
end

