-- ==== Sys2Proof/Laws/State.lean ====
section
/-! SUPPORT. What a program and an access do, and what each shared update leaves in each group of cells; all true by
definition, so that no proof unfolds a record update. -/

namespace Sys2Proof.Laws

open Sys2Proof.Machine

/-! ## Programs and accesses -/

@[simp] theorem runProgram_pure {c : Context} {α : Type} (a : α) (s : State) :
    runProgram (.pure a : Program c α) s = (a, s) := (rfl)
@[simp] theorem runProgram_access {c : Context} {α : Type} (a : Access c α) (s : State) :
    runProgram (.access a) s = performAccess a s := (rfl)
@[simp] theorem runProgram_bind {c : Context} {α β : Type} (p : Program c β) (k : β → Program c α) (s : State) :
    runProgram (p.bind k) s = runProgram (k (runProgram p s).1) (runProgram p s).2 := (rfl)
@[simp] theorem runProgram_atomically {α : Type} (g : CsToken .group → Program .group α) (s : State) :
    runProgram (.atomically g) s = runProgram (g .group) s := (rfl)
@[simp] theorem runProgram_andThen {c : Context} {α : Type} (p : Program c Unit) (q : Program c α) (s : State) :
    runProgram (andThen p q) s = runProgram q (after p s) := (rfl)
@[simp] theorem runProgram_readMain (s : State) : runProgram readMain s = (mainView s, s) := (rfl)
@[simp] theorem after_pure {c : Context} {α : Type} (a : α) (s : State) : after (.pure a : Program c α) s = s := (rfl)
@[simp] theorem after_access {c : Context} {α : Type} (a : Access c α) (s : State) :
    after (.access a) s = (performAccess a s).2 := (rfl)
@[simp] theorem after_bind {c : Context} {α β : Type} (p : Program c β) (k : β → Program c α) (s : State) :
    after (p.bind k) s = after (k (runProgram p s).1) (runProgram p s).2 := (rfl)
@[simp] theorem after_atomically {α : Type} (g : CsToken .group → Program .group α) (s : State) :
    after (.atomically g) s = after (g .group) s := (rfl)
@[simp] theorem after_andThen {c : Context} {α : Type} (p : Program c Unit) (q : Program c α) (s : State) :
    after (andThen p q) s = after q (after p s) := (rfl)
@[simp] theorem after_updateShared {c : Context} (tok : CsToken c) (f : SharedCells → SharedCells) (s : State) :
    after (updateShared tok f) s = putShared (f (sharedCells s)) s := (rfl)
@[simp] theorem after_updateMain (f : MainView → MainView) (s : State) :
    after (updateMain f) s = putMain (f (mainView s)).toMainCells s := (rfl)
@[simp] theorem after_updateInputs (f : Inputs → Inputs) (s : State) :
    after (updateInputs f) s = { s with inp := f s.inp } := (rfl)
@[simp] theorem perform_eq (i : Instr) (body : Body i) (s : State) : perform i body s = after body s := (rfl)

@[simp] theorem performAccess_nowShort {c : Context} (s : State) :
    performAccess (.nowShort : Access c Instant8) s = (s.clk.tcnt, s) := (rfl)
@[simp] theorem performAccess_config {c : Context} (s : State) :
    performAccess (.config : Access c Cfg) s = (s.cfg, s) := (rfl)
@[simp] theorem performAccess_readShared {c : Context} (tok : CsToken c) (s : State) :
    performAccess (.readShared tok) s = (sharedCells s, s) := (rfl)
@[simp] theorem performAccess_writeShared {c : Context} (tok : CsToken c) (v : SharedCells) (s : State) :
    performAccess (.writeShared tok v) s = ((), putShared v s) := (rfl)
@[simp] theorem performAccess_mainsPin (s : State) : performAccess .mainsPin s = (s.inp.mains, s) := (rfl)
@[simp] theorem performAccess_readMain (s : State) : performAccess .readMain s = (mainView s, s) := (rfl)
@[simp] theorem performAccess_writeMain (v : MainCells) (s : State) :
    performAccess (.writeMain v) s = ((), putMain v s) := (rfl)
@[simp] theorem performAccess_poke (s : State) :
    performAccess .poke s = ((), { s with wd := { s.wd with count := 0 } }) := (rfl)
@[simp] theorem performAccess_clearTacho (s : State) :
    performAccess .clearTacho s = ((), { s with irq := { s.irq with tacho := false } }) := (rfl)
@[simp] theorem performAccess_readTick (s : State) : performAccess .readTick s = (tickView s, s) := (rfl)
@[simp] theorem performAccess_writeTick (v : TickCells) (s : State) :
    performAccess (.writeTick v) s = ((), putTick v s) := (rfl)
@[simp] theorem performAccess_readInputs (s : State) : performAccess .readInputs s = (s.inp, s) := (rfl)
@[simp] theorem performAccess_writeInputs (v : Inputs) (s : State) :
    performAccess (.writeInputs v) s = ((), { s with inp := v }) := (rfl)
@[simp] theorem performAccess_requestTacho (s : State) :
    performAccess .requestTacho s = ((), { s with irq := { s.irq with tacho := true } }) := (rfl)
@[simp] theorem performAccess_halt (s : State) :
    performAccess .halt s = ((), { s with wd := { s.wd with halted := true } }) := (rfl)
@[simp] theorem performAccess_powerOnReset (s : State) : performAccess .powerOnReset s = ((), resetCells s) := (rfl)
@[simp] theorem performAccess_watchdogReset (s : State) : performAccess .watchdogReset s = ((), resetCells s) := (rfl)

/-! ## The views -/

@[simp] theorem sharedCells_tov (s : State) : (sharedCells s).tov = s.clk.tov := (rfl)
@[simp] theorem sharedCells_hi (s : State) : (sharedCells s).hi = s.clk.hi := (rfl)
@[simp] theorem sharedCells_ptIrq (s : State) : (sharedCells s).ptIrq = s.irq.pt := (rfl)
@[simp] theorem sharedCells_gateN (s : State) : (sharedCells s).gateN = s.out.gateN := (rfl)
@[simp] theorem sharedCells_cap (s : State) : (sharedCells s).cap = s.cap := (rfl)
@[simp] theorem sharedCells_pt (s : State) : (sharedCells s).pt = s.pt := (rfl)

@[simp] theorem mainCells_ml (s : State) : (mainCells s).ml = s.ml := (rfl)
@[simp] theorem mainCells_sys (s : State) : (mainCells s).sys = s.sys := (rfl)
@[simp] theorem mainCells_ms (s : State) : (mainCells s).ms = s.ms := (rfl)
@[simp] theorem mainCells_se (s : State) : (mainCells s).se = s.se := (rfl)
@[simp] theorem mainCells_secN (s : State) : (mainCells s).secN = s.out.secN := (rfl)
@[simp] theorem mainCells_tr (s : State) : (mainCells s).tr = s.tr := (rfl)
@[simp] theorem mainCells_ctl (s : State) : (mainCells s).ctl = s.ctl := (rfl)
@[simp] theorem mainCells_tm (s : State) : (mainCells s).tm = s.tm := (rfl)
@[simp] theorem mainCells_sf (s : State) : (mainCells s).sf = s.sf := (rfl)
@[simp] theorem mainCells_post (s : State) : (mainCells s).post = s.post := (rfl)

@[simp] theorem mainView_toMainCells (s : State) : (mainView s).toMainCells = mainCells s := (rfl)
@[simp] theorem mainView_ml (s : State) : (mainView s).ml = s.ml := (rfl)
@[simp] theorem mainView_sys (s : State) : (mainView s).sys = s.sys := (rfl)
@[simp] theorem mainView_ms (s : State) : (mainView s).ms = s.ms := (rfl)
@[simp] theorem mainView_se (s : State) : (mainView s).se = s.se := (rfl)
@[simp] theorem mainView_secN (s : State) : (mainView s).secN = s.out.secN := (rfl)
@[simp] theorem mainView_tr (s : State) : (mainView s).tr = s.tr := (rfl)
@[simp] theorem mainView_ctl (s : State) : (mainView s).ctl = s.ctl := (rfl)
@[simp] theorem mainView_tm (s : State) : (mainView s).tm = s.tm := (rfl)
@[simp] theorem mainView_sf (s : State) : (mainView s).sf = s.sf := (rfl)
@[simp] theorem mainView_post (s : State) : (mainView s).post = s.post := (rfl)
@[simp] theorem mainView_cfg (s : State) : (mainView s).cfg = s.cfg := (rfl)
@[simp] theorem mainView_adc (s : State) : (mainView s).adc = s.inp.adc := (rfl)
@[simp] theorem mainView_afeFailure (s : State) : (mainView s).afeFailure = s.inp.afeFailure := (rfl)
@[simp] theorem mainView_rtfault (s : State) : (mainView s).rtfault = s.inp.rtfault := (rfl)

@[simp] theorem tickView_tcnt (s : State) : (tickView s).tcnt = s.clk.tcnt := (rfl)
@[simp] theorem tickView_tov (s : State) : (tickView s).tov = s.clk.tov := (rfl)
@[simp] theorem tickView_ptIrq (s : State) : (tickView s).ptIrq = s.irq.pt := (rfl)
@[simp] theorem tickView_wdtCount (s : State) : (tickView s).wdtCount = s.wd.count := (rfl)
@[simp] theorem tickView_compareEnabled (s : State) : (tickView s).compareEnabled = s.pt.enabled := (rfl)
@[simp] theorem tickView_compareValue (s : State) : (tickView s).compareValue = s.pt.ocr := (rfl)

@[simp] theorem putShared_clk (c : SharedCells) (s : State) :
    (putShared c s).clk = { s.clk with tov := c.tov, hi := c.hi } := (rfl)
@[simp] theorem putShared_wd (c : SharedCells) (s : State) : (putShared c s).wd = s.wd := (rfl)
@[simp] theorem putShared_inp (c : SharedCells) (s : State) : (putShared c s).inp = s.inp := (rfl)
@[simp] theorem putShared_irq (c : SharedCells) (s : State) :
    (putShared c s).irq = { s.irq with pt := c.ptIrq } := (rfl)
@[simp] theorem putShared_ml (c : SharedCells) (s : State) : (putShared c s).ml = s.ml := (rfl)
@[simp] theorem putShared_sys (c : SharedCells) (s : State) : (putShared c s).sys = s.sys := (rfl)
@[simp] theorem putShared_ms (c : SharedCells) (s : State) : (putShared c s).ms = s.ms := (rfl)
@[simp] theorem putShared_cap (c : SharedCells) (s : State) : (putShared c s).cap = c.cap := (rfl)
@[simp] theorem putShared_se (c : SharedCells) (s : State) : (putShared c s).se = s.se := (rfl)
@[simp] theorem putShared_out (c : SharedCells) (s : State) :
    (putShared c s).out = { s.out with gateN := c.gateN } := (rfl)
@[simp] theorem putShared_tr (c : SharedCells) (s : State) : (putShared c s).tr = s.tr := (rfl)
@[simp] theorem putShared_pt (c : SharedCells) (s : State) : (putShared c s).pt = c.pt := (rfl)
@[simp] theorem putShared_ctl (c : SharedCells) (s : State) : (putShared c s).ctl = s.ctl := (rfl)
@[simp] theorem putShared_tm (c : SharedCells) (s : State) : (putShared c s).tm = s.tm := (rfl)
@[simp] theorem putShared_sf (c : SharedCells) (s : State) : (putShared c s).sf = s.sf := (rfl)
@[simp] theorem putShared_post (c : SharedCells) (s : State) : (putShared c s).post = s.post := (rfl)
@[simp] theorem putShared_cfg (c : SharedCells) (s : State) : (putShared c s).cfg = s.cfg := (rfl)
@[simp] theorem putShared_trace (c : SharedCells) (s : State) : (putShared c s).trace = s.trace := (rfl)

@[simp] theorem putMain_clk (c : MainCells) (s : State) : (putMain c s).clk = s.clk := (rfl)
@[simp] theorem putMain_wd (c : MainCells) (s : State) : (putMain c s).wd = s.wd := (rfl)
@[simp] theorem putMain_inp (c : MainCells) (s : State) : (putMain c s).inp = s.inp := (rfl)
@[simp] theorem putMain_irq (c : MainCells) (s : State) : (putMain c s).irq = s.irq := (rfl)
@[simp] theorem putMain_ml (c : MainCells) (s : State) : (putMain c s).ml = c.ml := (rfl)
@[simp] theorem putMain_sys (c : MainCells) (s : State) : (putMain c s).sys = c.sys := (rfl)
@[simp] theorem putMain_ms (c : MainCells) (s : State) : (putMain c s).ms = c.ms := (rfl)
@[simp] theorem putMain_cap (c : MainCells) (s : State) : (putMain c s).cap = s.cap := (rfl)
@[simp] theorem putMain_se (c : MainCells) (s : State) : (putMain c s).se = c.se := (rfl)
@[simp] theorem putMain_out (c : MainCells) (s : State) : (putMain c s).out = { s.out with secN := c.secN } := (rfl)
@[simp] theorem putMain_tr (c : MainCells) (s : State) : (putMain c s).tr = c.tr := (rfl)
@[simp] theorem putMain_pt (c : MainCells) (s : State) : (putMain c s).pt = s.pt := (rfl)
@[simp] theorem putMain_ctl (c : MainCells) (s : State) : (putMain c s).ctl = c.ctl := (rfl)
@[simp] theorem putMain_tm (c : MainCells) (s : State) : (putMain c s).tm = c.tm := (rfl)
@[simp] theorem putMain_sf (c : MainCells) (s : State) : (putMain c s).sf = c.sf := (rfl)
@[simp] theorem putMain_post (c : MainCells) (s : State) : (putMain c s).post = c.post := (rfl)
@[simp] theorem putMain_cfg (c : MainCells) (s : State) : (putMain c s).cfg = s.cfg := (rfl)
@[simp] theorem putMain_trace (c : MainCells) (s : State) : (putMain c s).trace = s.trace := (rfl)

@[simp] theorem putTick_clk (v : TickCells) (s : State) :
    (putTick v s).clk = { s.clk with tcnt := v.tcnt, tov := v.tov } := (rfl)
@[simp] theorem putTick_wd (v : TickCells) (s : State) : (putTick v s).wd = { s.wd with count := v.wdtCount } := (rfl)
@[simp] theorem putTick_inp (v : TickCells) (s : State) : (putTick v s).inp = s.inp := (rfl)
@[simp] theorem putTick_irq (v : TickCells) (s : State) : (putTick v s).irq = { s.irq with pt := v.ptIrq } := (rfl)
@[simp] theorem putTick_ml (v : TickCells) (s : State) : (putTick v s).ml = s.ml := (rfl)
@[simp] theorem putTick_sys (v : TickCells) (s : State) : (putTick v s).sys = s.sys := (rfl)
@[simp] theorem putTick_ms (v : TickCells) (s : State) : (putTick v s).ms = s.ms := (rfl)
@[simp] theorem putTick_cap (v : TickCells) (s : State) : (putTick v s).cap = s.cap := (rfl)
@[simp] theorem putTick_se (v : TickCells) (s : State) : (putTick v s).se = s.se := (rfl)
@[simp] theorem putTick_out (v : TickCells) (s : State) : (putTick v s).out = s.out := (rfl)
@[simp] theorem putTick_tr (v : TickCells) (s : State) : (putTick v s).tr = s.tr := (rfl)
@[simp] theorem putTick_pt (v : TickCells) (s : State) : (putTick v s).pt = s.pt := (rfl)
@[simp] theorem putTick_ctl (v : TickCells) (s : State) : (putTick v s).ctl = s.ctl := (rfl)
@[simp] theorem putTick_tm (v : TickCells) (s : State) : (putTick v s).tm = s.tm := (rfl)
@[simp] theorem putTick_sf (v : TickCells) (s : State) : (putTick v s).sf = s.sf := (rfl)
@[simp] theorem putTick_post (v : TickCells) (s : State) : (putTick v s).post = s.post := (rfl)
@[simp] theorem putTick_cfg (v : TickCells) (s : State) : (putTick v s).cfg = s.cfg := (rfl)
@[simp] theorem putTick_trace (v : TickCells) (s : State) : (putTick v s).trace = s.trace := (rfl)

/-! ## The shared updates of the state -/

@[simp] theorem nowLarge_clk {c : Context} (tok : CsToken c) (s : State) :
    (after (nowLarge tok) s).clk = foldClock s.clk := (rfl)
@[simp] theorem nowLarge_wd {c : Context} (tok : CsToken c) (s : State) : (after (nowLarge tok) s).wd = s.wd := (rfl)
@[simp] theorem nowLarge_inp {c : Context} (tok : CsToken c) (s : State) :
    (after (nowLarge tok) s).inp = s.inp := (rfl)
@[simp] theorem nowLarge_irq {c : Context} (tok : CsToken c) (s : State) :
    (after (nowLarge tok) s).irq = s.irq := (rfl)
@[simp] theorem nowLarge_ml {c : Context} (tok : CsToken c) (s : State) : (after (nowLarge tok) s).ml = s.ml := (rfl)
@[simp] theorem nowLarge_sys {c : Context} (tok : CsToken c) (s : State) :
    (after (nowLarge tok) s).sys = s.sys := (rfl)
@[simp] theorem nowLarge_ms {c : Context} (tok : CsToken c) (s : State) : (after (nowLarge tok) s).ms = s.ms := (rfl)
@[simp] theorem nowLarge_cap {c : Context} (tok : CsToken c) (s : State) :
    (after (nowLarge tok) s).cap = s.cap := (rfl)
@[simp] theorem nowLarge_se {c : Context} (tok : CsToken c) (s : State) : (after (nowLarge tok) s).se = s.se := (rfl)
@[simp] theorem nowLarge_out {c : Context} (tok : CsToken c) (s : State) :
    (after (nowLarge tok) s).out = s.out := (rfl)
@[simp] theorem nowLarge_tr {c : Context} (tok : CsToken c) (s : State) : (after (nowLarge tok) s).tr = s.tr := (rfl)
@[simp] theorem nowLarge_pt {c : Context} (tok : CsToken c) (s : State) : (after (nowLarge tok) s).pt = s.pt := (rfl)
@[simp] theorem nowLarge_ctl {c : Context} (tok : CsToken c) (s : State) :
    (after (nowLarge tok) s).ctl = s.ctl := (rfl)
@[simp] theorem nowLarge_tm {c : Context} (tok : CsToken c) (s : State) : (after (nowLarge tok) s).tm = s.tm := (rfl)
@[simp] theorem nowLarge_sf {c : Context} (tok : CsToken c) (s : State) : (after (nowLarge tok) s).sf = s.sf := (rfl)
@[simp] theorem nowLarge_post {c : Context} (tok : CsToken c) (s : State) :
    (after (nowLarge tok) s).post = s.post := (rfl)
@[simp] theorem nowLarge_cfg {c : Context} (tok : CsToken c) (s : State) :
    (after (nowLarge tok) s).cfg = s.cfg := (rfl)
@[simp] theorem nowLarge_trace {c : Context} (tok : CsToken c) (s : State) :
    (after (nowLarge tok) s).trace = s.trace := (rfl)

@[simp] theorem pinSetGate_clk {c : Context} (tok : CsToken c) (level : Bool) (s : State) :
    (after (pinSetGate tok level) s).clk = s.clk := (rfl)
@[simp] theorem pinSetGate_wd {c : Context} (tok : CsToken c) (level : Bool) (s : State) :
    (after (pinSetGate tok level) s).wd = s.wd := (rfl)
@[simp] theorem pinSetGate_inp {c : Context} (tok : CsToken c) (level : Bool) (s : State) :
    (after (pinSetGate tok level) s).inp = s.inp := (rfl)
@[simp] theorem pinSetGate_irq {c : Context} (tok : CsToken c) (level : Bool) (s : State) :
    (after (pinSetGate tok level) s).irq = s.irq := (rfl)
@[simp] theorem pinSetGate_ml {c : Context} (tok : CsToken c) (level : Bool) (s : State) :
    (after (pinSetGate tok level) s).ml = s.ml := (rfl)
@[simp] theorem pinSetGate_sys {c : Context} (tok : CsToken c) (level : Bool) (s : State) :
    (after (pinSetGate tok level) s).sys = s.sys := (rfl)
@[simp] theorem pinSetGate_ms {c : Context} (tok : CsToken c) (level : Bool) (s : State) :
    (after (pinSetGate tok level) s).ms = s.ms := (rfl)
@[simp] theorem pinSetGate_cap {c : Context} (tok : CsToken c) (level : Bool) (s : State) :
    (after (pinSetGate tok level) s).cap = s.cap := (rfl)
@[simp] theorem pinSetGate_se {c : Context} (tok : CsToken c) (level : Bool) (s : State) :
    (after (pinSetGate tok level) s).se = s.se := (rfl)
@[simp] theorem pinSetGate_out {c : Context} (tok : CsToken c) (level : Bool) (s : State) :
    (after (pinSetGate tok level) s).out = { s.out with gateN := level } := (rfl)
@[simp] theorem pinSetGate_tr {c : Context} (tok : CsToken c) (level : Bool) (s : State) :
    (after (pinSetGate tok level) s).tr = s.tr := (rfl)
@[simp] theorem pinSetGate_pt {c : Context} (tok : CsToken c) (level : Bool) (s : State) :
    (after (pinSetGate tok level) s).pt = s.pt := (rfl)
@[simp] theorem pinSetGate_ctl {c : Context} (tok : CsToken c) (level : Bool) (s : State) :
    (after (pinSetGate tok level) s).ctl = s.ctl := (rfl)
@[simp] theorem pinSetGate_tm {c : Context} (tok : CsToken c) (level : Bool) (s : State) :
    (after (pinSetGate tok level) s).tm = s.tm := (rfl)
@[simp] theorem pinSetGate_sf {c : Context} (tok : CsToken c) (level : Bool) (s : State) :
    (after (pinSetGate tok level) s).sf = s.sf := (rfl)
@[simp] theorem pinSetGate_post {c : Context} (tok : CsToken c) (level : Bool) (s : State) :
    (after (pinSetGate tok level) s).post = s.post := (rfl)
@[simp] theorem pinSetGate_cfg {c : Context} (tok : CsToken c) (level : Bool) (s : State) :
    (after (pinSetGate tok level) s).cfg = s.cfg := (rfl)
@[simp] theorem pinSetGate_trace {c : Context} (tok : CsToken c) (level : Bool) (s : State) :
    (after (pinSetGate tok level) s).trace = s.trace := (rfl)

@[simp] theorem adcSet_clk (ch : Fin 5) (code : AdcCode) (s : State) : (after (adcSet ch code) s).clk = s.clk := (rfl)
@[simp] theorem adcSet_wd (ch : Fin 5) (code : AdcCode) (s : State) : (after (adcSet ch code) s).wd = s.wd := (rfl)
@[simp] theorem adcSet_inp (ch : Fin 5) (code : AdcCode) (s : State) :
    (after (adcSet ch code) s).inp = { s.inp with adc := s.inp.adc.set ch (some code) } := (rfl)
@[simp] theorem adcSet_irq (ch : Fin 5) (code : AdcCode) (s : State) : (after (adcSet ch code) s).irq = s.irq := (rfl)
@[simp] theorem adcSet_ml (ch : Fin 5) (code : AdcCode) (s : State) : (after (adcSet ch code) s).ml = s.ml := (rfl)
@[simp] theorem adcSet_sys (ch : Fin 5) (code : AdcCode) (s : State) : (after (adcSet ch code) s).sys = s.sys := (rfl)
@[simp] theorem adcSet_ms (ch : Fin 5) (code : AdcCode) (s : State) : (after (adcSet ch code) s).ms = s.ms := (rfl)
@[simp] theorem adcSet_cap (ch : Fin 5) (code : AdcCode) (s : State) : (after (adcSet ch code) s).cap = s.cap := (rfl)
@[simp] theorem adcSet_se (ch : Fin 5) (code : AdcCode) (s : State) : (after (adcSet ch code) s).se = s.se := (rfl)
@[simp] theorem adcSet_out (ch : Fin 5) (code : AdcCode) (s : State) : (after (adcSet ch code) s).out = s.out := (rfl)
@[simp] theorem adcSet_tr (ch : Fin 5) (code : AdcCode) (s : State) : (after (adcSet ch code) s).tr = s.tr := (rfl)
@[simp] theorem adcSet_pt (ch : Fin 5) (code : AdcCode) (s : State) : (after (adcSet ch code) s).pt = s.pt := (rfl)
@[simp] theorem adcSet_ctl (ch : Fin 5) (code : AdcCode) (s : State) : (after (adcSet ch code) s).ctl = s.ctl := (rfl)
@[simp] theorem adcSet_tm (ch : Fin 5) (code : AdcCode) (s : State) : (after (adcSet ch code) s).tm = s.tm := (rfl)
@[simp] theorem adcSet_sf (ch : Fin 5) (code : AdcCode) (s : State) : (after (adcSet ch code) s).sf = s.sf := (rfl)
@[simp] theorem adcSet_post (ch : Fin 5) (code : AdcCode) (s : State) :
    (after (adcSet ch code) s).post = s.post := (rfl)
@[simp] theorem adcSet_cfg (ch : Fin 5) (code : AdcCode) (s : State) : (after (adcSet ch code) s).cfg = s.cfg := (rfl)
@[simp] theorem adcSet_trace (ch : Fin 5) (code : AdcCode) (s : State) :
    (after (adcSet ch code) s).trace = s.trace := (rfl)

@[simp] theorem drainCapture_clk (tok : CsToken .group) (s : State) :
    (after (drainCapture tok) s).clk = s.clk := (rfl)
@[simp] theorem drainCapture_wd (tok : CsToken .group) (s : State) : (after (drainCapture tok) s).wd = s.wd := (rfl)
@[simp] theorem drainCapture_inp (tok : CsToken .group) (s : State) :
    (after (drainCapture tok) s).inp = s.inp := (rfl)
@[simp] theorem drainCapture_irq (tok : CsToken .group) (s : State) :
    (after (drainCapture tok) s).irq = s.irq := (rfl)
@[simp] theorem drainCapture_ml (tok : CsToken .group) (s : State) : (after (drainCapture tok) s).ml = s.ml := (rfl)
@[simp] theorem drainCapture_sys (tok : CsToken .group) (s : State) :
    (after (drainCapture tok) s).sys = s.sys := (rfl)
@[simp] theorem drainCapture_ms (tok : CsToken .group) (s : State) : (after (drainCapture tok) s).ms = s.ms := (rfl)
@[simp] theorem drainCapture_cap (tok : CsToken .group) (s : State) :
    (after (drainCapture tok) s).cap = { s.cap with new := false } := (rfl)
@[simp] theorem drainCapture_se (tok : CsToken .group) (s : State) : (after (drainCapture tok) s).se = s.se := (rfl)
@[simp] theorem drainCapture_out (tok : CsToken .group) (s : State) :
    (after (drainCapture tok) s).out = s.out := (rfl)
@[simp] theorem drainCapture_tr (tok : CsToken .group) (s : State) : (after (drainCapture tok) s).tr = s.tr := (rfl)
@[simp] theorem drainCapture_pt (tok : CsToken .group) (s : State) : (after (drainCapture tok) s).pt = s.pt := (rfl)
@[simp] theorem drainCapture_ctl (tok : CsToken .group) (s : State) :
    (after (drainCapture tok) s).ctl = s.ctl := (rfl)
@[simp] theorem drainCapture_tm (tok : CsToken .group) (s : State) : (after (drainCapture tok) s).tm = s.tm := (rfl)
@[simp] theorem drainCapture_sf (tok : CsToken .group) (s : State) : (after (drainCapture tok) s).sf = s.sf := (rfl)
@[simp] theorem drainCapture_post (tok : CsToken .group) (s : State) :
    (after (drainCapture tok) s).post = s.post := (rfl)
@[simp] theorem drainCapture_cfg (tok : CsToken .group) (s : State) :
    (after (drainCapture tok) s).cfg = s.cfg := (rfl)
@[simp] theorem drainCapture_trace (tok : CsToken .group) (s : State) :
    (after (drainCapture tok) s).trace = s.trace := (rfl)

@[simp] theorem ptArm_clk (tok : CsToken .group) (ocr : Instant8) (count : Byte) (s : State) :
    (after (ptArm tok ocr count) s).clk = s.clk := (rfl)
@[simp] theorem ptArm_wd (tok : CsToken .group) (ocr : Instant8) (count : Byte) (s : State) :
    (after (ptArm tok ocr count) s).wd = s.wd := (rfl)
@[simp] theorem ptArm_inp (tok : CsToken .group) (ocr : Instant8) (count : Byte) (s : State) :
    (after (ptArm tok ocr count) s).inp = s.inp := (rfl)
@[simp] theorem ptArm_irq (tok : CsToken .group) (ocr : Instant8) (count : Byte) (s : State) :
    (after (ptArm tok ocr count) s).irq = { s.irq with pt := false } := (rfl)
@[simp] theorem ptArm_ml (tok : CsToken .group) (ocr : Instant8) (count : Byte) (s : State) :
    (after (ptArm tok ocr count) s).ml = s.ml := (rfl)
@[simp] theorem ptArm_sys (tok : CsToken .group) (ocr : Instant8) (count : Byte) (s : State) :
    (after (ptArm tok ocr count) s).sys = s.sys := (rfl)
@[simp] theorem ptArm_ms (tok : CsToken .group) (ocr : Instant8) (count : Byte) (s : State) :
    (after (ptArm tok ocr count) s).ms = s.ms := (rfl)
@[simp] theorem ptArm_cap (tok : CsToken .group) (ocr : Instant8) (count : Byte) (s : State) :
    (after (ptArm tok ocr count) s).cap = s.cap := (rfl)
@[simp] theorem ptArm_se (tok : CsToken .group) (ocr : Instant8) (count : Byte) (s : State) :
    (after (ptArm tok ocr count) s).se = s.se := (rfl)
@[simp] theorem ptArm_out (tok : CsToken .group) (ocr : Instant8) (count : Byte) (s : State) :
    (after (ptArm tok ocr count) s).out = s.out := (rfl)
@[simp] theorem ptArm_tr (tok : CsToken .group) (ocr : Instant8) (count : Byte) (s : State) :
    (after (ptArm tok ocr count) s).tr = s.tr := (rfl)
@[simp] theorem ptArm_pt (tok : CsToken .group) (ocr : Instant8) (count : Byte) (s : State) :
    (after (ptArm tok ocr count) s).pt =
      { enabled := true, ocr := ocr, phase := .gateSet, remaining := count } := (rfl)
@[simp] theorem ptArm_ctl (tok : CsToken .group) (ocr : Instant8) (count : Byte) (s : State) :
    (after (ptArm tok ocr count) s).ctl = s.ctl := (rfl)
@[simp] theorem ptArm_tm (tok : CsToken .group) (ocr : Instant8) (count : Byte) (s : State) :
    (after (ptArm tok ocr count) s).tm = s.tm := (rfl)
@[simp] theorem ptArm_sf (tok : CsToken .group) (ocr : Instant8) (count : Byte) (s : State) :
    (after (ptArm tok ocr count) s).sf = s.sf := (rfl)
@[simp] theorem ptArm_post (tok : CsToken .group) (ocr : Instant8) (count : Byte) (s : State) :
    (after (ptArm tok ocr count) s).post = s.post := (rfl)
@[simp] theorem ptArm_cfg (tok : CsToken .group) (ocr : Instant8) (count : Byte) (s : State) :
    (after (ptArm tok ocr count) s).cfg = s.cfg := (rfl)
@[simp] theorem ptArm_trace (tok : CsToken .group) (ocr : Instant8) (count : Byte) (s : State) :
    (after (ptArm tok ocr count) s).trace = s.trace := (rfl)

@[simp] theorem ptCancel_clk (tok : CsToken .group) (s : State) : (after (ptCancel tok) s).clk = s.clk := (rfl)
@[simp] theorem ptCancel_wd (tok : CsToken .group) (s : State) : (after (ptCancel tok) s).wd = s.wd := (rfl)
@[simp] theorem ptCancel_inp (tok : CsToken .group) (s : State) : (after (ptCancel tok) s).inp = s.inp := (rfl)
@[simp] theorem ptCancel_irq (tok : CsToken .group) (s : State) :
    (after (ptCancel tok) s).irq = { s.irq with pt := false } := (rfl)
@[simp] theorem ptCancel_ml (tok : CsToken .group) (s : State) : (after (ptCancel tok) s).ml = s.ml := (rfl)
@[simp] theorem ptCancel_sys (tok : CsToken .group) (s : State) : (after (ptCancel tok) s).sys = s.sys := (rfl)
@[simp] theorem ptCancel_ms (tok : CsToken .group) (s : State) : (after (ptCancel tok) s).ms = s.ms := (rfl)
@[simp] theorem ptCancel_cap (tok : CsToken .group) (s : State) : (after (ptCancel tok) s).cap = s.cap := (rfl)
@[simp] theorem ptCancel_se (tok : CsToken .group) (s : State) : (after (ptCancel tok) s).se = s.se := (rfl)
@[simp] theorem ptCancel_out (tok : CsToken .group) (s : State) :
    (after (ptCancel tok) s).out = { s.out with gateN := true } := (rfl)
@[simp] theorem ptCancel_tr (tok : CsToken .group) (s : State) : (after (ptCancel tok) s).tr = s.tr := (rfl)
@[simp] theorem ptCancel_pt (tok : CsToken .group) (s : State) :
    (after (ptCancel tok) s).pt = { s.pt with enabled := false, remaining := 0 } := (rfl)
@[simp] theorem ptCancel_ctl (tok : CsToken .group) (s : State) : (after (ptCancel tok) s).ctl = s.ctl := (rfl)
@[simp] theorem ptCancel_tm (tok : CsToken .group) (s : State) : (after (ptCancel tok) s).tm = s.tm := (rfl)
@[simp] theorem ptCancel_sf (tok : CsToken .group) (s : State) : (after (ptCancel tok) s).sf = s.sf := (rfl)
@[simp] theorem ptCancel_post (tok : CsToken .group) (s : State) : (after (ptCancel tok) s).post = s.post := (rfl)
@[simp] theorem ptCancel_cfg (tok : CsToken .group) (s : State) : (after (ptCancel tok) s).cfg = s.cfg := (rfl)
@[simp] theorem ptCancel_trace (tok : CsToken .group) (s : State) : (after (ptCancel tok) s).trace = s.trace := (rfl)

@[simp] theorem setPending_clk (b : Bool) (s : State) : (after (setPending b) s).clk = s.clk := (rfl)
@[simp] theorem setPending_wd (b : Bool) (s : State) : (after (setPending b) s).wd = s.wd := (rfl)
@[simp] theorem setPending_inp (b : Bool) (s : State) : (after (setPending b) s).inp = s.inp := (rfl)
@[simp] theorem setPending_irq (b : Bool) (s : State) : (after (setPending b) s).irq = s.irq := (rfl)
@[simp] theorem setPending_ml (b : Bool) (s : State) : (after (setPending b) s).ml = s.ml := (rfl)
@[simp] theorem setPending_sys (b : Bool) (s : State) : (after (setPending b) s).sys = s.sys := (rfl)
@[simp] theorem setPending_ms (b : Bool) (s : State) : (after (setPending b) s).ms = s.ms := (rfl)
@[simp] theorem setPending_cap (b : Bool) (s : State) : (after (setPending b) s).cap = s.cap := (rfl)
@[simp] theorem setPending_se (b : Bool) (s : State) : (after (setPending b) s).se = s.se := (rfl)
@[simp] theorem setPending_out (b : Bool) (s : State) : (after (setPending b) s).out = s.out := (rfl)
@[simp] theorem setPending_tr (b : Bool) (s : State) :
    (after (setPending b) s).tr = { s.tr with pending := b } := (rfl)
@[simp] theorem setPending_pt (b : Bool) (s : State) : (after (setPending b) s).pt = s.pt := (rfl)
@[simp] theorem setPending_ctl (b : Bool) (s : State) : (after (setPending b) s).ctl = s.ctl := (rfl)
@[simp] theorem setPending_tm (b : Bool) (s : State) : (after (setPending b) s).tm = s.tm := (rfl)
@[simp] theorem setPending_sf (b : Bool) (s : State) : (after (setPending b) s).sf = s.sf := (rfl)
@[simp] theorem setPending_post (b : Bool) (s : State) : (after (setPending b) s).post = s.post := (rfl)
@[simp] theorem setPending_cfg (b : Bool) (s : State) : (after (setPending b) s).cfg = s.cfg := (rfl)
@[simp] theorem setPending_trace (b : Bool) (s : State) : (after (setPending b) s).trace = s.trace := (rfl)

@[simp] theorem advancePhase_clk (s : State) : (after advancePhase s).clk = s.clk := (rfl)
@[simp] theorem advancePhase_wd (s : State) : (after advancePhase s).wd = s.wd := (rfl)
@[simp] theorem advancePhase_inp (s : State) : (after advancePhase s).inp = s.inp := (rfl)
@[simp] theorem advancePhase_irq (s : State) : (after advancePhase s).irq = s.irq := (rfl)
@[simp] theorem advancePhase_ml (s : State) : (after advancePhase s).ml = { s.ml with pc := s.ml.pc + 1 } := (rfl)
@[simp] theorem advancePhase_sys (s : State) : (after advancePhase s).sys = s.sys := (rfl)
@[simp] theorem advancePhase_ms (s : State) : (after advancePhase s).ms = s.ms := (rfl)
@[simp] theorem advancePhase_cap (s : State) : (after advancePhase s).cap = s.cap := (rfl)
@[simp] theorem advancePhase_se (s : State) : (after advancePhase s).se = s.se := (rfl)
@[simp] theorem advancePhase_out (s : State) : (after advancePhase s).out = s.out := (rfl)
@[simp] theorem advancePhase_tr (s : State) : (after advancePhase s).tr = s.tr := (rfl)
@[simp] theorem advancePhase_pt (s : State) : (after advancePhase s).pt = s.pt := (rfl)
@[simp] theorem advancePhase_ctl (s : State) : (after advancePhase s).ctl = s.ctl := (rfl)
@[simp] theorem advancePhase_tm (s : State) : (after advancePhase s).tm = s.tm := (rfl)
@[simp] theorem advancePhase_sf (s : State) : (after advancePhase s).sf = s.sf := (rfl)
@[simp] theorem advancePhase_post (s : State) : (after advancePhase s).post = s.post := (rfl)
@[simp] theorem advancePhase_cfg (s : State) : (after advancePhase s).cfg = s.cfg := (rfl)
@[simp] theorem advancePhase_trace (s : State) : (after advancePhase s).trace = s.trace := (rfl)

/-! ## The shared updates of the `MAIN` cells -/

@[simp] theorem pinSetSec_ml (level : Bool) (v : MainView) : (pinSetSec level v).ml = v.ml := (rfl)
@[simp] theorem pinSetSec_sys (level : Bool) (v : MainView) : (pinSetSec level v).sys = v.sys := (rfl)
@[simp] theorem pinSetSec_ms (level : Bool) (v : MainView) : (pinSetSec level v).ms = v.ms := (rfl)
@[simp] theorem pinSetSec_se (level : Bool) (v : MainView) : (pinSetSec level v).se = v.se := (rfl)
@[simp] theorem pinSetSec_secN (level : Bool) (v : MainView) : (pinSetSec level v).secN = level := (rfl)
@[simp] theorem pinSetSec_tr (level : Bool) (v : MainView) : (pinSetSec level v).tr = v.tr := (rfl)
@[simp] theorem pinSetSec_ctl (level : Bool) (v : MainView) : (pinSetSec level v).ctl = v.ctl := (rfl)
@[simp] theorem pinSetSec_tm (level : Bool) (v : MainView) : (pinSetSec level v).tm = v.tm := (rfl)
@[simp] theorem pinSetSec_sf (level : Bool) (v : MainView) : (pinSetSec level v).sf = v.sf := (rfl)
@[simp] theorem pinSetSec_post (level : Bool) (v : MainView) : (pinSetSec level v).post = v.post := (rfl)
@[simp] theorem pinSetSec_cfg (level : Bool) (v : MainView) : (pinSetSec level v).cfg = v.cfg := (rfl)
@[simp] theorem pinSetSec_adc (level : Bool) (v : MainView) : (pinSetSec level v).adc = v.adc := (rfl)
@[simp] theorem pinSetSec_afeFailure (level : Bool) (v : MainView) :
    (pinSetSec level v).afeFailure = v.afeFailure := (rfl)
@[simp] theorem pinSetSec_rtfault (level : Bool) (v : MainView) : (pinSetSec level v).rtfault = v.rtfault := (rfl)

@[simp] theorem dbStep_ml (fault sticky : Bool) (v : MainView) : (dbStep fault sticky v).ml = v.ml := (rfl)
@[simp] theorem dbStep_sys (fault sticky : Bool) (v : MainView) : (dbStep fault sticky v).sys = v.sys := (rfl)
@[simp] theorem dbStep_ms (fault sticky : Bool) (v : MainView) : (dbStep fault sticky v).ms = v.ms := (rfl)
@[simp] theorem dbStep_se (fault sticky : Bool) (v : MainView) : (dbStep fault sticky v).se = v.se := (rfl)
@[simp] theorem dbStep_secN (fault sticky : Bool) (v : MainView) : (dbStep fault sticky v).secN = v.secN := (rfl)
@[simp] theorem dbStep_tr (fault sticky : Bool) (v : MainView) : (dbStep fault sticky v).tr = v.tr := (rfl)
@[simp] theorem dbStep_ctl (fault sticky : Bool) (v : MainView) : (dbStep fault sticky v).ctl = v.ctl := (rfl)
@[simp] theorem dbStep_tm (fault sticky : Bool) (v : MainView) : (dbStep fault sticky v).tm = v.tm := (rfl)
@[simp] theorem dbStep_sf (fault sticky : Bool) (v : MainView) :
    (dbStep fault sticky v).sf = { v.sf with count := dbNext v.cfg v.sf.count fault sticky } := (rfl)
@[simp] theorem dbStep_post (fault sticky : Bool) (v : MainView) : (dbStep fault sticky v).post = v.post := (rfl)
@[simp] theorem dbStep_cfg (fault sticky : Bool) (v : MainView) : (dbStep fault sticky v).cfg = v.cfg := (rfl)
@[simp] theorem dbStep_adc (fault sticky : Bool) (v : MainView) : (dbStep fault sticky v).adc = v.adc := (rfl)
@[simp] theorem dbStep_afeFailure (fault sticky : Bool) (v : MainView) :
    (dbStep fault sticky v).afeFailure = v.afeFailure := (rfl)
@[simp] theorem dbStep_rtfault (fault sticky : Bool) (v : MainView) :
    (dbStep fault sticky v).rtfault = v.rtfault := (rfl)

@[simp] theorem dbTrip_ml (v : MainView) : (dbTrip v).ml = v.ml := (rfl)
@[simp] theorem dbTrip_sys (v : MainView) : (dbTrip v).sys = v.sys := (rfl)
@[simp] theorem dbTrip_ms (v : MainView) : (dbTrip v).ms = v.ms := (rfl)
@[simp] theorem dbTrip_se (v : MainView) : (dbTrip v).se = v.se := (rfl)
@[simp] theorem dbTrip_secN (v : MainView) : (dbTrip v).secN = v.secN := (rfl)
@[simp] theorem dbTrip_tr (v : MainView) : (dbTrip v).tr = v.tr := (rfl)
@[simp] theorem dbTrip_ctl (v : MainView) : (dbTrip v).ctl = v.ctl := (rfl)
@[simp] theorem dbTrip_tm (v : MainView) : (dbTrip v).tm = v.tm := (rfl)
@[simp] theorem dbTrip_sf (v : MainView) : (dbTrip v).sf = { v.sf with count := v.cfg.dbLimit } := (rfl)
@[simp] theorem dbTrip_post (v : MainView) : (dbTrip v).post = v.post := (rfl)
@[simp] theorem dbTrip_cfg (v : MainView) : (dbTrip v).cfg = v.cfg := (rfl)
@[simp] theorem dbTrip_adc (v : MainView) : (dbTrip v).adc = v.adc := (rfl)
@[simp] theorem dbTrip_afeFailure (v : MainView) : (dbTrip v).afeFailure = v.afeFailure := (rfl)
@[simp] theorem dbTrip_rtfault (v : MainView) : (dbTrip v).rtfault = v.rtfault := (rfl)

@[simp] theorem setVotes_ml (primary secondary : Bool) (v : MainView) :
    (setVotes primary secondary v).ml = v.ml := (rfl)
@[simp] theorem setVotes_sys (primary secondary : Bool) (v : MainView) :
    (setVotes primary secondary v).sys =
      { v.sys with primaryShutoff := primary, secondaryShutoff := secondary } := (rfl)
@[simp] theorem setVotes_ms (primary secondary : Bool) (v : MainView) :
    (setVotes primary secondary v).ms = v.ms := (rfl)
@[simp] theorem setVotes_se (primary secondary : Bool) (v : MainView) :
    (setVotes primary secondary v).se = v.se := (rfl)
@[simp] theorem setVotes_secN (primary secondary : Bool) (v : MainView) :
    (setVotes primary secondary v).secN = v.secN := (rfl)
@[simp] theorem setVotes_tr (primary secondary : Bool) (v : MainView) :
    (setVotes primary secondary v).tr = v.tr := (rfl)
@[simp] theorem setVotes_ctl (primary secondary : Bool) (v : MainView) :
    (setVotes primary secondary v).ctl = v.ctl := (rfl)
@[simp] theorem setVotes_tm (primary secondary : Bool) (v : MainView) :
    (setVotes primary secondary v).tm = v.tm := (rfl)
@[simp] theorem setVotes_sf (primary secondary : Bool) (v : MainView) :
    (setVotes primary secondary v).sf = v.sf := (rfl)
@[simp] theorem setVotes_post (primary secondary : Bool) (v : MainView) :
    (setVotes primary secondary v).post = v.post := (rfl)
@[simp] theorem setVotes_cfg (primary secondary : Bool) (v : MainView) :
    (setVotes primary secondary v).cfg = v.cfg := (rfl)
@[simp] theorem setVotes_adc (primary secondary : Bool) (v : MainView) :
    (setVotes primary secondary v).adc = v.adc := (rfl)
@[simp] theorem setVotes_afeFailure (primary secondary : Bool) (v : MainView) :
    (setVotes primary secondary v).afeFailure = v.afeFailure := (rfl)
@[simp] theorem setVotes_rtfault (primary secondary : Bool) (v : MainView) :
    (setVotes primary secondary v).rtfault = v.rtfault := (rfl)

@[simp] theorem setArmed_ml (b : Bool) (v : MainView) : (setArmed b v).ml = v.ml := (rfl)
@[simp] theorem setArmed_sys (b : Bool) (v : MainView) : (setArmed b v).sys = { v.sys with hkArmed := b } := (rfl)
@[simp] theorem setArmed_ms (b : Bool) (v : MainView) : (setArmed b v).ms = v.ms := (rfl)
@[simp] theorem setArmed_se (b : Bool) (v : MainView) : (setArmed b v).se = v.se := (rfl)
@[simp] theorem setArmed_secN (b : Bool) (v : MainView) : (setArmed b v).secN = v.secN := (rfl)
@[simp] theorem setArmed_tr (b : Bool) (v : MainView) : (setArmed b v).tr = v.tr := (rfl)
@[simp] theorem setArmed_ctl (b : Bool) (v : MainView) : (setArmed b v).ctl = v.ctl := (rfl)
@[simp] theorem setArmed_tm (b : Bool) (v : MainView) : (setArmed b v).tm = v.tm := (rfl)
@[simp] theorem setArmed_sf (b : Bool) (v : MainView) : (setArmed b v).sf = v.sf := (rfl)
@[simp] theorem setArmed_post (b : Bool) (v : MainView) : (setArmed b v).post = v.post := (rfl)
@[simp] theorem setArmed_cfg (b : Bool) (v : MainView) : (setArmed b v).cfg = v.cfg := (rfl)
@[simp] theorem setArmed_adc (b : Bool) (v : MainView) : (setArmed b v).adc = v.adc := (rfl)
@[simp] theorem setArmed_afeFailure (b : Bool) (v : MainView) : (setArmed b v).afeFailure = v.afeFailure := (rfl)
@[simp] theorem setArmed_rtfault (b : Bool) (v : MainView) : (setArmed b v).rtfault = v.rtfault := (rfl)

@[simp] theorem setSystemState_ml (st : SystemState) (v : MainView) : (setSystemState st v).ml = v.ml := (rfl)
@[simp] theorem setSystemState_sys (st : SystemState) (v : MainView) :
    (setSystemState st v).sys = { v.sys with state := st } := (rfl)
@[simp] theorem setSystemState_ms (st : SystemState) (v : MainView) : (setSystemState st v).ms = v.ms := (rfl)
@[simp] theorem setSystemState_se (st : SystemState) (v : MainView) : (setSystemState st v).se = v.se := (rfl)
@[simp] theorem setSystemState_secN (st : SystemState) (v : MainView) : (setSystemState st v).secN = v.secN := (rfl)
@[simp] theorem setSystemState_tr (st : SystemState) (v : MainView) : (setSystemState st v).tr = v.tr := (rfl)
@[simp] theorem setSystemState_ctl (st : SystemState) (v : MainView) : (setSystemState st v).ctl = v.ctl := (rfl)
@[simp] theorem setSystemState_tm (st : SystemState) (v : MainView) : (setSystemState st v).tm = v.tm := (rfl)
@[simp] theorem setSystemState_sf (st : SystemState) (v : MainView) : (setSystemState st v).sf = v.sf := (rfl)
@[simp] theorem setSystemState_post (st : SystemState) (v : MainView) : (setSystemState st v).post = v.post := (rfl)
@[simp] theorem setSystemState_cfg (st : SystemState) (v : MainView) : (setSystemState st v).cfg = v.cfg := (rfl)
@[simp] theorem setSystemState_adc (st : SystemState) (v : MainView) : (setSystemState st v).adc = v.adc := (rfl)
@[simp] theorem setSystemState_afeFailure (st : SystemState) (v : MainView) :
    (setSystemState st v).afeFailure = v.afeFailure := (rfl)
@[simp] theorem setSystemState_rtfault (st : SystemState) (v : MainView) :
    (setSystemState st v).rtfault = v.rtfault := (rfl)

@[simp] theorem clearIntegral_ml (v : MainView) : (clearIntegral v).ml = v.ml := (rfl)
@[simp] theorem clearIntegral_sys (v : MainView) : (clearIntegral v).sys = v.sys := (rfl)
@[simp] theorem clearIntegral_ms (v : MainView) : (clearIntegral v).ms = v.ms := (rfl)
@[simp] theorem clearIntegral_se (v : MainView) : (clearIntegral v).se = v.se := (rfl)
@[simp] theorem clearIntegral_secN (v : MainView) : (clearIntegral v).secN = v.secN := (rfl)
@[simp] theorem clearIntegral_tr (v : MainView) : (clearIntegral v).tr = v.tr := (rfl)
@[simp] theorem clearIntegral_ctl (v : MainView) : (clearIntegral v).ctl = { v.ctl with i := 0 } := (rfl)
@[simp] theorem clearIntegral_tm (v : MainView) : (clearIntegral v).tm = v.tm := (rfl)
@[simp] theorem clearIntegral_sf (v : MainView) : (clearIntegral v).sf = v.sf := (rfl)
@[simp] theorem clearIntegral_post (v : MainView) : (clearIntegral v).post = v.post := (rfl)
@[simp] theorem clearIntegral_cfg (v : MainView) : (clearIntegral v).cfg = v.cfg := (rfl)
@[simp] theorem clearIntegral_adc (v : MainView) : (clearIntegral v).adc = v.adc := (rfl)
@[simp] theorem clearIntegral_afeFailure (v : MainView) : (clearIntegral v).afeFailure = v.afeFailure := (rfl)
@[simp] theorem clearIntegral_rtfault (v : MainView) : (clearIntegral v).rtfault = v.rtfault := (rfl)

@[simp] theorem setOffset_ml (d : Duration16) (v : MainView) : (setOffset d v).ml = v.ml := (rfl)
@[simp] theorem setOffset_sys (d : Duration16) (v : MainView) : (setOffset d v).sys = v.sys := (rfl)
@[simp] theorem setOffset_ms (d : Duration16) (v : MainView) : (setOffset d v).ms = v.ms := (rfl)
@[simp] theorem setOffset_se (d : Duration16) (v : MainView) : (setOffset d v).se = v.se := (rfl)
@[simp] theorem setOffset_secN (d : Duration16) (v : MainView) : (setOffset d v).secN = v.secN := (rfl)
@[simp] theorem setOffset_tr (d : Duration16) (v : MainView) : (setOffset d v).tr = { v.tr with offset := d } := (rfl)
@[simp] theorem setOffset_ctl (d : Duration16) (v : MainView) : (setOffset d v).ctl = v.ctl := (rfl)
@[simp] theorem setOffset_tm (d : Duration16) (v : MainView) : (setOffset d v).tm = v.tm := (rfl)
@[simp] theorem setOffset_sf (d : Duration16) (v : MainView) : (setOffset d v).sf = v.sf := (rfl)
@[simp] theorem setOffset_post (d : Duration16) (v : MainView) : (setOffset d v).post = v.post := (rfl)
@[simp] theorem setOffset_cfg (d : Duration16) (v : MainView) : (setOffset d v).cfg = v.cfg := (rfl)
@[simp] theorem setOffset_adc (d : Duration16) (v : MainView) : (setOffset d v).adc = v.adc := (rfl)
@[simp] theorem setOffset_afeFailure (d : Duration16) (v : MainView) :
    (setOffset d v).afeFailure = v.afeFailure := (rfl)
@[simp] theorem setOffset_rtfault (d : Duration16) (v : MainView) : (setOffset d v).rtfault = v.rtfault := (rfl)

@[simp] theorem noteCrossing_ml (now : Instant16) (zc : Bool) (v : MainView) :
    (noteCrossing now zc v).ml = v.ml := (rfl)
@[simp] theorem noteCrossing_sys (now : Instant16) (zc : Bool) (v : MainView) :
    (noteCrossing now zc v).sys = v.sys := (rfl)
@[simp] theorem noteCrossing_ms (now : Instant16) (zc : Bool) (v : MainView) :
    (noteCrossing now zc v).ms = v.ms := (rfl)
@[simp] theorem noteCrossing_se (now : Instant16) (zc : Bool) (v : MainView) :
    (noteCrossing now zc v).se = v.se := (rfl)
@[simp] theorem noteCrossing_secN (now : Instant16) (zc : Bool) (v : MainView) :
    (noteCrossing now zc v).secN = v.secN := (rfl)
@[simp] theorem noteCrossing_tr (now : Instant16) (zc : Bool) (v : MainView) :
    (noteCrossing now zc v).tr = v.tr := (rfl)
@[simp] theorem noteCrossing_ctl (now : Instant16) (zc : Bool) (v : MainView) :
    (noteCrossing now zc v).ctl = v.ctl := (rfl)
@[simp] theorem noteCrossing_tm (now : Instant16) (zc : Bool) (v : MainView) :
    (noteCrossing now zc v).tm = v.tm := (rfl)
@[simp] theorem noteCrossing_sf (now : Instant16) (zc : Bool) (v : MainView) :
    (noteCrossing now zc v).sf = { v.sf with lastZc := if zc then now else v.sf.lastZc } := (rfl)
@[simp] theorem noteCrossing_post (now : Instant16) (zc : Bool) (v : MainView) :
    (noteCrossing now zc v).post = v.post := (rfl)
@[simp] theorem noteCrossing_cfg (now : Instant16) (zc : Bool) (v : MainView) :
    (noteCrossing now zc v).cfg = v.cfg := (rfl)
@[simp] theorem noteCrossing_adc (now : Instant16) (zc : Bool) (v : MainView) :
    (noteCrossing now zc v).adc = v.adc := (rfl)
@[simp] theorem noteCrossing_afeFailure (now : Instant16) (zc : Bool) (v : MainView) :
    (noteCrossing now zc v).afeFailure = v.afeFailure := (rfl)
@[simp] theorem noteCrossing_rtfault (now : Instant16) (zc : Bool) (v : MainView) :
    (noteCrossing now zc v).rtfault = v.rtfault := (rfl)

@[simp] theorem setLastCheck_ml (now : Instant16) (v : MainView) : (setLastCheck now v).ml = v.ml := (rfl)
@[simp] theorem setLastCheck_sys (now : Instant16) (v : MainView) : (setLastCheck now v).sys = v.sys := (rfl)
@[simp] theorem setLastCheck_ms (now : Instant16) (v : MainView) : (setLastCheck now v).ms = v.ms := (rfl)
@[simp] theorem setLastCheck_se (now : Instant16) (v : MainView) : (setLastCheck now v).se = v.se := (rfl)
@[simp] theorem setLastCheck_secN (now : Instant16) (v : MainView) : (setLastCheck now v).secN = v.secN := (rfl)
@[simp] theorem setLastCheck_tr (now : Instant16) (v : MainView) : (setLastCheck now v).tr = v.tr := (rfl)
@[simp] theorem setLastCheck_ctl (now : Instant16) (v : MainView) : (setLastCheck now v).ctl = v.ctl := (rfl)
@[simp] theorem setLastCheck_tm (now : Instant16) (v : MainView) : (setLastCheck now v).tm = v.tm := (rfl)
@[simp] theorem setLastCheck_sf (now : Instant16) (v : MainView) :
    (setLastCheck now v).sf = { v.sf with lastCheck := now } := (rfl)
@[simp] theorem setLastCheck_post (now : Instant16) (v : MainView) : (setLastCheck now v).post = v.post := (rfl)
@[simp] theorem setLastCheck_cfg (now : Instant16) (v : MainView) : (setLastCheck now v).cfg = v.cfg := (rfl)
@[simp] theorem setLastCheck_adc (now : Instant16) (v : MainView) : (setLastCheck now v).adc = v.adc := (rfl)
@[simp] theorem setLastCheck_afeFailure (now : Instant16) (v : MainView) :
    (setLastCheck now v).afeFailure = v.afeFailure := (rfl)
@[simp] theorem setLastCheck_rtfault (now : Instant16) (v : MainView) :
    (setLastCheck now v).rtfault = v.rtfault := (rfl)

@[simp] theorem pushSetpoint_ml (sp : Q) (v : MainView) : (pushSetpoint sp v).ml = v.ml := (rfl)
@[simp] theorem pushSetpoint_sys (sp : Q) (v : MainView) : (pushSetpoint sp v).sys = v.sys := (rfl)
@[simp] theorem pushSetpoint_ms (sp : Q) (v : MainView) : (pushSetpoint sp v).ms = v.ms := (rfl)
@[simp] theorem pushSetpoint_se (sp : Q) (v : MainView) : (pushSetpoint sp v).se = v.se := (rfl)
@[simp] theorem pushSetpoint_secN (sp : Q) (v : MainView) : (pushSetpoint sp v).secN = v.secN := (rfl)
@[simp] theorem pushSetpoint_tr (sp : Q) (v : MainView) : (pushSetpoint sp v).tr = v.tr := (rfl)
@[simp] theorem pushSetpoint_ctl (sp : Q) (v : MainView) : (pushSetpoint sp v).ctl = v.ctl := (rfl)
@[simp] theorem pushSetpoint_tm (sp : Q) (v : MainView) : (pushSetpoint sp v).tm = v.tm := (rfl)
@[simp] theorem pushSetpoint_sf (sp : Q) (v : MainView) :
    (pushSetpoint sp v).sf = { v.sf with hist := v.sf.hist.set v.sf.hidx sp, hidx := v.sf.hidx + 1 } := (rfl)
@[simp] theorem pushSetpoint_post (sp : Q) (v : MainView) : (pushSetpoint sp v).post = v.post := (rfl)
@[simp] theorem pushSetpoint_cfg (sp : Q) (v : MainView) : (pushSetpoint sp v).cfg = v.cfg := (rfl)
@[simp] theorem pushSetpoint_adc (sp : Q) (v : MainView) : (pushSetpoint sp v).adc = v.adc := (rfl)
@[simp] theorem pushSetpoint_afeFailure (sp : Q) (v : MainView) :
    (pushSetpoint sp v).afeFailure = v.afeFailure := (rfl)
@[simp] theorem pushSetpoint_rtfault (sp : Q) (v : MainView) : (pushSetpoint sp v).rtfault = v.rtfault := (rfl)

@[simp] theorem ctrlStep_ml (sp : Q) (speed : Option Q) (syncing : Bool) (v : MainView) :
    (ctrlStep sp speed syncing v).ml = v.ml := (rfl)
@[simp] theorem ctrlStep_sys (sp : Q) (speed : Option Q) (syncing : Bool) (v : MainView) :
    (ctrlStep sp speed syncing v).sys = v.sys := (rfl)
@[simp] theorem ctrlStep_ms (sp : Q) (speed : Option Q) (syncing : Bool) (v : MainView) :
    (ctrlStep sp speed syncing v).ms = v.ms := (rfl)
@[simp] theorem ctrlStep_se (sp : Q) (speed : Option Q) (syncing : Bool) (v : MainView) :
    (ctrlStep sp speed syncing v).se = v.se := (rfl)
@[simp] theorem ctrlStep_secN (sp : Q) (speed : Option Q) (syncing : Bool) (v : MainView) :
    (ctrlStep sp speed syncing v).secN = v.secN := (rfl)
@[simp] theorem ctrlStep_tr (sp : Q) (speed : Option Q) (syncing : Bool) (v : MainView) :
    (ctrlStep sp speed syncing v).tr = v.tr := (rfl)
@[simp] theorem ctrlStep_ctl (sp : Q) (speed : Option Q) (syncing : Bool) (v : MainView) :
    (ctrlStep sp speed syncing v).ctl = controllerNext v.cfg v.ctl sp speed syncing := (rfl)
@[simp] theorem ctrlStep_tm (sp : Q) (speed : Option Q) (syncing : Bool) (v : MainView) :
    (ctrlStep sp speed syncing v).tm = v.tm := (rfl)
@[simp] theorem ctrlStep_sf (sp : Q) (speed : Option Q) (syncing : Bool) (v : MainView) :
    (ctrlStep sp speed syncing v).sf = v.sf := (rfl)
@[simp] theorem ctrlStep_post (sp : Q) (speed : Option Q) (syncing : Bool) (v : MainView) :
    (ctrlStep sp speed syncing v).post = v.post := (rfl)
@[simp] theorem ctrlStep_cfg (sp : Q) (speed : Option Q) (syncing : Bool) (v : MainView) :
    (ctrlStep sp speed syncing v).cfg = v.cfg := (rfl)
@[simp] theorem ctrlStep_adc (sp : Q) (speed : Option Q) (syncing : Bool) (v : MainView) :
    (ctrlStep sp speed syncing v).adc = v.adc := (rfl)
@[simp] theorem ctrlStep_afeFailure (sp : Q) (speed : Option Q) (syncing : Bool) (v : MainView) :
    (ctrlStep sp speed syncing v).afeFailure = v.afeFailure := (rfl)
@[simp] theorem ctrlStep_rtfault (sp : Q) (speed : Option Q) (syncing : Bool) (v : MainView) :
    (ctrlStep sp speed syncing v).rtfault = v.rtfault := (rfl)

@[simp] theorem setTriggerOffset_ml (v : MainView) : (setTriggerOffset v).ml = v.ml := (rfl)
@[simp] theorem setTriggerOffset_sys (v : MainView) : (setTriggerOffset v).sys = v.sys := (rfl)
@[simp] theorem setTriggerOffset_ms (v : MainView) : (setTriggerOffset v).ms = v.ms := (rfl)
@[simp] theorem setTriggerOffset_se (v : MainView) : (setTriggerOffset v).se = v.se := (rfl)
@[simp] theorem setTriggerOffset_secN (v : MainView) : (setTriggerOffset v).secN = v.secN := (rfl)
@[simp] theorem setTriggerOffset_tr (v : MainView) :
    (setTriggerOffset v).tr = { v.tr with offset := curveEval v.cfg.trigCurve v.ctl.out } := (rfl)
@[simp] theorem setTriggerOffset_ctl (v : MainView) : (setTriggerOffset v).ctl = v.ctl := (rfl)
@[simp] theorem setTriggerOffset_tm (v : MainView) : (setTriggerOffset v).tm = v.tm := (rfl)
@[simp] theorem setTriggerOffset_sf (v : MainView) : (setTriggerOffset v).sf = v.sf := (rfl)
@[simp] theorem setTriggerOffset_post (v : MainView) : (setTriggerOffset v).post = v.post := (rfl)
@[simp] theorem setTriggerOffset_cfg (v : MainView) : (setTriggerOffset v).cfg = v.cfg := (rfl)
@[simp] theorem setTriggerOffset_adc (v : MainView) : (setTriggerOffset v).adc = v.adc := (rfl)
@[simp] theorem setTriggerOffset_afeFailure (v : MainView) : (setTriggerOffset v).afeFailure = v.afeFailure := (rfl)
@[simp] theorem setTriggerOffset_rtfault (v : MainView) : (setTriggerOffset v).rtfault = v.rtfault := (rfl)

/-! ## The reset -/

@[simp] theorem resetCells_clk (s : State) : (resetCells s).clk = (State.resetWith s.cfg).clk := (rfl)
@[simp] theorem resetCells_wd (s : State) : (resetCells s).wd = (State.resetWith s.cfg).wd := (rfl)
@[simp] theorem resetCells_inp (s : State) :
    (resetCells s).inp =
      { mains := s.inp.mains, rtfault := s.inp.rtfault, adc := Vector.replicate 5 none, afeFailure := false } := (rfl)
@[simp] theorem resetCells_irq (s : State) : (resetCells s).irq = (State.resetWith s.cfg).irq := (rfl)
@[simp] theorem resetCells_ml (s : State) : (resetCells s).ml = (State.resetWith s.cfg).ml := (rfl)
@[simp] theorem resetCells_sys (s : State) : (resetCells s).sys = (State.resetWith s.cfg).sys := (rfl)
@[simp] theorem resetCells_ms (s : State) : (resetCells s).ms = (State.resetWith s.cfg).ms := (rfl)
@[simp] theorem resetCells_cap (s : State) : (resetCells s).cap = (State.resetWith s.cfg).cap := (rfl)
@[simp] theorem resetCells_se (s : State) : (resetCells s).se = (State.resetWith s.cfg).se := (rfl)
@[simp] theorem resetCells_out (s : State) : (resetCells s).out = (State.resetWith s.cfg).out := (rfl)
@[simp] theorem resetCells_tr (s : State) : (resetCells s).tr = (State.resetWith s.cfg).tr := (rfl)
@[simp] theorem resetCells_pt (s : State) : (resetCells s).pt = (State.resetWith s.cfg).pt := (rfl)
@[simp] theorem resetCells_ctl (s : State) : (resetCells s).ctl = (State.resetWith s.cfg).ctl := (rfl)
@[simp] theorem resetCells_tm (s : State) : (resetCells s).tm = (State.resetWith s.cfg).tm := (rfl)
@[simp] theorem resetCells_sf (s : State) : (resetCells s).sf = (State.resetWith s.cfg).sf := (rfl)
@[simp] theorem resetCells_post (s : State) : (resetCells s).post = (State.resetWith s.cfg).post := (rfl)
@[simp] theorem resetCells_cfg (s : State) : (resetCells s).cfg = s.cfg := (rfl)
@[simp] theorem resetCells_trace (s : State) : (resetCells s).trace = s.trace := (rfl)

end Sys2Proof.Laws
end

