-- ==== Sys2Proof/Laws/Ops.lean ====
section
/-! SUPPORT. What each shared operation, each phase and the step can do, said once. -/

namespace Sys2Proof.Laws

open Sys2Proof.Machine

/-- A guarded step answers next exactly when it is enabled (R86). -/
theorem whenEnabled_next_iff {b : Bool} {s t : State} : whenEnabled b s = .next t ↔ b = true ∧ s = t := by
  cases b <;> simp [whenEnabled]

/-- A guarded step that is not enabled is refused (R86). -/
theorem whenEnabled_false (s : State) : whenEnabled false s = .refused .stepDisabled := rfl

/-- A handler runs exactly when its request is pending and the core is not halted (R334). -/
theorem takeInterrupt_next_iff {i : Instr} {p : Bool} {handler : Body i} {s t : State} :
    takeInterrupt i p handler s = .next t ↔ p = true ∧ s.wd.halted = false ∧ after handler s = t := by
  simp [takeInterrupt, whenEnabled_next_iff, and_assoc]

/-- A program that chooses between two, performed. -/
theorem after_ite {c : Context} {α : Type} {q : Prop} [Decidable q] (p r : Program c α) (s : State) :
    after (if q then p else r) s = if q then after p s else after r s := by split <;> rfl

/-- A state's own `MAIN` cells, put back (R69). -/
@[simp] theorem putMain_mainCells (s : State) : putMain (mainCells s) s = s := rfl

/-- A state's own `SHARED` cells, put back (R69). -/
@[simp] theorem putShared_sharedCells (s : State) : putShared (sharedCells s) s = s := rfl

/-- Folding a clock whose overflow flag is clear changes nothing (R67, R116). -/
theorem foldClock_of_clear {k : Clock} (h : k.tov = false) : foldClock k = k := by
  cases k
  cases h
  rfl

/-- Folding twice is folding once (R116). -/
@[simp] theorem foldClock_foldClock (k : Clock) : foldClock (foldClock k) = foldClock k := rfl

/-- `now_large` answers the folded instant and folds the overflow flag into the clock; nothing else (R116). -/
@[simp] theorem nowLarge_spec {c : Context} (tok : CsToken c) (s : State) :
    runProgram (nowLarge tok) s = (clockInstant (foldClock s.clk), { s with clk := foldClock s.clk }) := (rfl)

/-- A main-loop read of the clock is `now_large` (R66, R116). -/
@[simp] theorem readClock_spec (s : State) :
    runProgram readClock s = (clockInstant (foldClock s.clk), { s with clk := foldClock s.clk }) := (rfl)

/-- The sample of `MAINS` reads the pin and the clock together (R151). -/
theorem samplePin_spec (tok : CsToken .group) (s : State) :
    runProgram (samplePin tok) s =
      ((s.inp.mains, clockInstant (foldClock s.clk)), { s with clk := foldClock s.clk }) := rfl

/-- The group of `SPEED` drains the record and reads the clock together (R168). -/
theorem drainAndRead_spec (tok : CsToken .group) (s : State) :
    runProgram (drainAndRead tok) s =
      ((s.cap, clockInstant (foldClock s.clk)),
        { s with clk := foldClock s.clk, cap := { s.cap with new := false } }) := rfl

/-- The drained record is the one that stood there (R168). -/
@[simp] theorem drainCapture_fst (tok : CsToken .group) (s : State) :
    (runProgram (drainCapture tok) s).1 = s.cap := (rfl)

/-- `pt_cancel`, as one update (R195). -/
theorem ptCancel_spec (tok : CsToken .group) (s : State) :
    after (ptCancel tok) s =
      { s with irq := { s.irq with pt := false }, out := { s.out with gateN := true },
               pt := { s.pt with enabled := false, remaining := 0 } } := rfl

/-- `pt_arm`, as one update (R194). -/
theorem ptArm_spec (tok : CsToken .group) (ocr : Instant8) (count : Byte) (s : State) :
    after (ptArm tok ocr count) s =
      { s with irq := { s.irq with pt := false },
               pt := { enabled := true, ocr := ocr, phase := .gateSet, remaining := count } } := rfl

/-- Cancelling twice is cancelling once (R195). -/
theorem ptCancel_ptCancel (tok : CsToken .group) (s : State) :
    after (ptCancel tok) (after (ptCancel tok) s) = after (ptCancel tok) s := by simp only [ptCancel_spec]

/-- The capture keeps the oldest unconsumed edge (R167). -/
theorem captureEdge_spec (tok : CsToken .irq) (now : Instant16) (s : State) :
    after (captureEdge tok now) s = { s with cap := if s.cap.new then s.cap else { new := true, ts := now } } := by
  unfold captureEdge
  cases h : s.cap.new <;> simp only [after_updateShared, sharedCells_cap, h] <;> rfl

/-- The tachometer handler, as one update (R166, R167). -/
theorem tachoHandler_spec (tok : CsToken .irq) (s : State) :
    after (tachoHandler tok) s =
      { s with irq := { s.irq with tacho := false }, clk := foldClock s.clk,
               cap := if s.cap.new then s.cap else { new := true, ts := clockInstant (foldClock s.clk) } } := by
  unfold tachoHandler
  simp only [after_andThen, after_bind, captureEdge_spec]
  rfl

@[simp] theorem tachoHandler_clk (tok : CsToken .irq) (s : State) :
    (after (tachoHandler tok) s).clk = foldClock s.clk := by
  rw [tachoHandler_spec]
@[simp] theorem tachoHandler_wd (tok : CsToken .irq) (s : State) : (after (tachoHandler tok) s).wd = s.wd := by
  rw [tachoHandler_spec]
@[simp] theorem tachoHandler_inp (tok : CsToken .irq) (s : State) : (after (tachoHandler tok) s).inp = s.inp := by
  rw [tachoHandler_spec]
@[simp] theorem tachoHandler_ml (tok : CsToken .irq) (s : State) : (after (tachoHandler tok) s).ml = s.ml := by
  rw [tachoHandler_spec]
@[simp] theorem tachoHandler_sys (tok : CsToken .irq) (s : State) : (after (tachoHandler tok) s).sys = s.sys := by
  rw [tachoHandler_spec]
@[simp] theorem tachoHandler_ms (tok : CsToken .irq) (s : State) : (after (tachoHandler tok) s).ms = s.ms := by
  rw [tachoHandler_spec]
@[simp] theorem tachoHandler_se (tok : CsToken .irq) (s : State) : (after (tachoHandler tok) s).se = s.se := by
  rw [tachoHandler_spec]
@[simp] theorem tachoHandler_out (tok : CsToken .irq) (s : State) : (after (tachoHandler tok) s).out = s.out := by
  rw [tachoHandler_spec]
@[simp] theorem tachoHandler_tr (tok : CsToken .irq) (s : State) : (after (tachoHandler tok) s).tr = s.tr := by
  rw [tachoHandler_spec]
@[simp] theorem tachoHandler_pt (tok : CsToken .irq) (s : State) : (after (tachoHandler tok) s).pt = s.pt := by
  rw [tachoHandler_spec]
@[simp] theorem tachoHandler_ctl (tok : CsToken .irq) (s : State) : (after (tachoHandler tok) s).ctl = s.ctl := by
  rw [tachoHandler_spec]
@[simp] theorem tachoHandler_tm (tok : CsToken .irq) (s : State) : (after (tachoHandler tok) s).tm = s.tm := by
  rw [tachoHandler_spec]
@[simp] theorem tachoHandler_sf (tok : CsToken .irq) (s : State) : (after (tachoHandler tok) s).sf = s.sf := by
  rw [tachoHandler_spec]
@[simp] theorem tachoHandler_post (tok : CsToken .irq) (s : State) :
    (after (tachoHandler tok) s).post = s.post := by
  rw [tachoHandler_spec]
@[simp] theorem tachoHandler_cfg (tok : CsToken .irq) (s : State) : (after (tachoHandler tok) s).cfg = s.cfg := by
  rw [tachoHandler_spec]
@[simp] theorem tachoHandler_trace (tok : CsToken .irq) (s : State) :
    (after (tachoHandler tok) s).trace = s.trace := by
  rw [tachoHandler_spec]

/-- The pulse handler clears its request and changes the gate and the pulse timer; nothing else (R197). -/
theorem pulseHandler_frame (tok : CsToken .irq) (s : State) :
    after (pulseHandler tok) s =
      { s with irq := { s.irq with pt := false },
               out := { s.out with gateN := (after (pulseHandler tok) s).out.gateN },
               pt := (after (pulseHandler tok) s).pt } := by
  rcases s with ⟨_, _, _, _, _, _, _, _, _, _, _, ⟨_, _, _ | _, _⟩, _, _, _, _, _, _⟩ <;> rfl

/-- In `GateSet` the gate is set, and its clearing is one pulse width ahead (R197). -/
theorem pulseHandler_gateSet (tok : CsToken .irq) (s : State) (h : s.pt.phase = .gateSet) :
    after (pulseHandler tok) s =
      { s with irq := { s.irq with pt := false }, out := { s.out with gateN := false },
               pt := { s.pt with phase := .gateClear, ocr := iAdd s.clk.tcnt s.cfg.pulseWidth } } := by
  rcases s with ⟨_, _, _, _, _, _, _, _, _, _, _, ⟨_, _, _, _⟩, _, _, _, _, _, _⟩
  cases h
  rfl

/-- In `GateClear` the gate is cleared with one pulse less to go; the timer stops when none is left (R197). -/
theorem pulseHandler_gateClear (tok : CsToken .irq) (s : State) (h : s.pt.phase = .gateClear) :
    after (pulseHandler tok) s =
      { s with irq := { s.irq with pt := false }, out := { s.out with gateN := true },
               pt := if countDown s.pt.remaining = 0 then
                       { s.pt with remaining := countDown s.pt.remaining, enabled := false }
                     else
                       { s.pt with remaining := countDown s.pt.remaining, phase := .gateSet,
                                   ocr := iAdd s.clk.tcnt s.cfg.pulseWidth } } := by
  rcases s with ⟨_, _, _, _, _, _, _, _, _, _, _, ⟨_, _, _, _⟩, _, _, _, _, _, _⟩
  cases h
  rfl

@[simp] theorem pulseHandler_clk (tok : CsToken .irq) (s : State) : (after (pulseHandler tok) s).clk = s.clk := by
  rw [pulseHandler_frame]
@[simp] theorem pulseHandler_wd (tok : CsToken .irq) (s : State) : (after (pulseHandler tok) s).wd = s.wd := by
  rw [pulseHandler_frame]
@[simp] theorem pulseHandler_inp (tok : CsToken .irq) (s : State) : (after (pulseHandler tok) s).inp = s.inp := by
  rw [pulseHandler_frame]
@[simp] theorem pulseHandler_ml (tok : CsToken .irq) (s : State) : (after (pulseHandler tok) s).ml = s.ml := by
  rw [pulseHandler_frame]
@[simp] theorem pulseHandler_sys (tok : CsToken .irq) (s : State) : (after (pulseHandler tok) s).sys = s.sys := by
  rw [pulseHandler_frame]
@[simp] theorem pulseHandler_ms (tok : CsToken .irq) (s : State) : (after (pulseHandler tok) s).ms = s.ms := by
  rw [pulseHandler_frame]
@[simp] theorem pulseHandler_cap (tok : CsToken .irq) (s : State) : (after (pulseHandler tok) s).cap = s.cap := by
  rw [pulseHandler_frame]
@[simp] theorem pulseHandler_se (tok : CsToken .irq) (s : State) : (after (pulseHandler tok) s).se = s.se := by
  rw [pulseHandler_frame]
@[simp] theorem pulseHandler_out_secN (tok : CsToken .irq) (s : State) :
    (after (pulseHandler tok) s).out.secN = s.out.secN := by
  rw [pulseHandler_frame]
@[simp] theorem pulseHandler_tr (tok : CsToken .irq) (s : State) : (after (pulseHandler tok) s).tr = s.tr := by
  rw [pulseHandler_frame]
@[simp] theorem pulseHandler_ctl (tok : CsToken .irq) (s : State) : (after (pulseHandler tok) s).ctl = s.ctl := by
  rw [pulseHandler_frame]
@[simp] theorem pulseHandler_tm (tok : CsToken .irq) (s : State) : (after (pulseHandler tok) s).tm = s.tm := by
  rw [pulseHandler_frame]
@[simp] theorem pulseHandler_sf (tok : CsToken .irq) (s : State) : (after (pulseHandler tok) s).sf = s.sf := by
  rw [pulseHandler_frame]
@[simp] theorem pulseHandler_post (tok : CsToken .irq) (s : State) :
    (after (pulseHandler tok) s).post = s.post := by
  rw [pulseHandler_frame]
@[simp] theorem pulseHandler_cfg (tok : CsToken .irq) (s : State) : (after (pulseHandler tok) s).cfg = s.cfg := by
  rw [pulseHandler_frame]
@[simp] theorem pulseHandler_trace (tok : CsToken .irq) (s : State) :
    (after (pulseHandler tok) s).trace = s.trace := by
  rw [pulseHandler_frame]

/-- The body of `TICK`, as one update (R310). -/
theorem tickBody_spec (s : State) :
    after tickBody s =
      { s with clk := { s.clk with tcnt := s.clk.tcnt + 1, tov := s.clk.tov || decide (s.clk.tcnt + 1 = 0) },
               irq := { s.irq with pt := s.irq.pt || (s.pt.enabled && decide (s.clk.tcnt + 1 = s.pt.ocr)) },
               wd := { s.wd with count := s.wd.count + 1 } } := rfl

/-- A fact of the state after each of the seven phases is one of the state after the phase `ml_pc` selects (R281). -/
theorem performPhase_of_each {P : State → Prop} {s : State} (looptime : P (after phaseLooptime s))
    (mains : P (after phaseMains s)) (speed : P (after phaseSpeed s)) (dispatch : P (after phaseDispatch s))
    (triac : P (after phaseTriac s)) (output : P (after phaseOutput s)) (wdt : P (after phaseWdt s)) :
    P (after performPhase s) := by
  unfold performPhase
  simp only [after_bind, runProgram_readMain, mainView_ml]
  unfold phaseProgram
  split <;> with_reducible assumption

/-- Phase `LOOPTIME`, as one update (R282). -/
theorem phaseLooptime_spec (s : State) :
    after phaseLooptime s =
      { s with clk := foldClock s.clk,
               ml := { s.ml with diagLoopRuntime := iSub (clockInstant (foldClock s.clk)) s.ml.lastStart,
                                 lastStart := clockInstant (foldClock s.clk) } } := rfl

/-- Phase `MAINS`, as one update (R158). -/
theorem phaseMains_spec (s : State) :
    after phaseMains s =
      { s with clk := foldClock s.clk,
               ms := mainsUpdate s.cfg s.ms s.inp.mains (clockInstant (foldClock s.clk)) } := rfl

/-- Phase `SPEED`, as one update (R168). -/
theorem phaseSpeed_spec (s : State) :
    after phaseSpeed s =
      { s with clk := foldClock s.clk, cap := { s.cap with new := false },
               se := if s.cap.new then drainEdge s.cfg s.se s.cap.ts
                     else checkStale s.se (clockInstant (foldClock s.clk)) } := rfl

/-- Phase `DISPATCH`, as one update of the `MAIN` cells (R283). -/
theorem phaseDispatch_spec (s : State) :
    after phaseDispatch s =
      putMain (dispatchAt (clockInstant (foldClock s.clk)) (mainView s)).toMainCells
        { s with clk := foldClock s.clk } := rfl

/-- Phase `OUTPUT`, as one update (R290). -/
theorem phaseOutput_spec (s : State) :
    after phaseOutput s = { s with out := { s.out with secN := s.sys.secondaryShutoff } } := rfl

/-- Phase `WDT`, as one update (R291). -/
theorem phaseWdt_spec (s : State) : after phaseWdt s = { s with wd := { s.wd with count := 0 } } := rfl

/-- A cancelled trigger (R187, R190, R195). -/
theorem cancelTrigger_spec (s : State) :
    after cancelTrigger s =
      { s with irq := { s.irq with pt := false }, out := { s.out with gateN := true },
               pt := { s.pt with enabled := false, remaining := 0 }, tr := { s.tr with pending := false } } := rfl

/-- An armed trigger (R191, R194). -/
theorem armTrigger_spec (c : Cfg) (ref : Instant16) (eff : Nat) (s : State) :
    after (armTrigger c ref eff) s =
      { s with irq := { s.irq with pt := false }, tr := { s.tr with pending := false },
               pt := { enabled := true, ocr := (iAdd ref (BitVec.ofNat 16 eff)).extractLsb' 0 8, phase := .gateSet,
                       remaining := BitVec.ofNat 8 (pulseCount c eff) } } := rfl

/-- A half-wave transition cancels and marks a trigger pending (R188). -/
theorem startHalfWave_spec (s : State) :
    after startHalfWave s =
      if s.ms.transition then
        { s with irq := { s.irq with pt := false }, out := { s.out with gateN := true },
                 pt := { s.pt with enabled := false, remaining := 0 }, tr := { s.tr with pending := true } }
      else s := by
  simp only [startHalfWave, after_bind, runProgram_readMain, after_ite]
  rfl

/-- A served trigger is cancelled, armed or left (R189 to R191). -/
theorem serveTrigger_cases (now : Instant16) (s : State) :
    (s.cfg.maxOffset.toNat < effectiveOffset s.tr.offset (iSub now s.ms.ref) ∧
      after (serveTrigger now) s = after cancelTrigger s) ∨
    (effectiveOffset s.tr.offset (iSub now s.ms.ref) ≤ s.cfg.maxOffset.toNat ∧
      effectiveOffset s.tr.offset (iSub now s.ms.ref) - (iSub now s.ms.ref).toNat ≤ s.cfg.shortArmMax.toNat ∧
      after (serveTrigger now) s =
        after (armTrigger s.cfg s.ms.ref (effectiveOffset s.tr.offset (iSub now s.ms.ref))) s) ∨
    (effectiveOffset s.tr.offset (iSub now s.ms.ref) ≤ s.cfg.maxOffset.toNat ∧
      s.cfg.shortArmMax.toNat < effectiveOffset s.tr.offset (iSub now s.ms.ref) - (iSub now s.ms.ref).toNat ∧
      after (serveTrigger now) s = s) := by
  simp only [serveTrigger, after_bind, runProgram_readMain, scheduleTrigger, after_ite]
  by_cases far : s.cfg.maxOffset.toNat < effectiveOffset s.tr.offset (iSub now s.ms.ref)
  · exact .inl ⟨far, if_pos far⟩
  · by_cases near :
        effectiveOffset s.tr.offset (iSub now s.ms.ref) - (iSub now s.ms.ref).toNat ≤ s.cfg.shortArmMax.toNat
    · exact .inr (.inl ⟨by omega, near, (if_neg far).trans (if_pos near)⟩)
    · exact .inr (.inr ⟨by omega, by omega, (if_neg far).trans (if_neg near)⟩)

/-- What a phase `TRIAC` does: the clock folded; then the trigger cancelled, or the half-wave started and the trigger
served if it is pending (R186 to R188). -/
theorem phaseTriac_spec (s : State) :
    after phaseTriac s =
      if s.sys.primaryShutoff then after cancelTrigger { s with clk := foldClock s.clk }
      else if (after startHalfWave { s with clk := foldClock s.clk }).tr.pending then
        after (serveTrigger (clockInstant (foldClock s.clk))) (after startHalfWave { s with clk := foldClock s.clk })
      else after startHalfWave { s with clk := foldClock s.clk } := by
  simp only [phaseTriac, serveIfPending, after_bind, readClock_spec, runProgram_readMain, after_ite, after_andThen,
    after_pure]
  rfl

/-- A phase `TRIAC` changes the clock's fold, the trigger, the pulse timer with its request, and the gate; nothing
else (R186). -/
theorem phaseTriac_frame (s : State) :
    after phaseTriac s =
      { s with clk := foldClock s.clk, tr := (after phaseTriac s).tr, pt := (after phaseTriac s).pt,
               irq := { s.irq with pt := (after phaseTriac s).irq.pt },
               out := { s.out with gateN := (after phaseTriac s).out.gateN } } := by
  let Reached (t : State) : Prop :=
    ∃ tr pt req gate, t = { s with clk := foldClock s.clk, tr := tr, pt := pt, irq := { s.irq with pt := req },
                                   out := { s.out with gateN := gate } }
  have served (now : Instant16) (t : State) (h : Reached t) : Reached (after (serveTrigger now) t) := by
    obtain ⟨_, _, _, _, rfl⟩ := h
    rcases serveTrigger_cases now _ with ⟨-, h⟩ | ⟨-, -, h⟩ | ⟨-, -, h⟩ <;> rw [h] <;> exact ⟨_, _, _, _, rfl⟩
  have started : Reached (after startHalfWave { s with clk := foldClock s.clk }) := by
    rw [startHalfWave_spec]
    split <;> exact ⟨_, _, _, _, rfl⟩
  have reached : Reached (after phaseTriac s) := by
    rw [phaseTriac_spec]
    split
    · exact ⟨_, _, _, _, rfl⟩
    · split
      · exact served _ _ started
      · exact started
  obtain ⟨_, _, _, _, h⟩ := reached
  rw [h]

@[simp] theorem phaseTriac_clk (s : State) : (after phaseTriac s).clk = foldClock s.clk := by
  rw [phaseTriac_frame]
@[simp] theorem phaseTriac_wd (s : State) : (after phaseTriac s).wd = s.wd := by
  rw [phaseTriac_frame]
@[simp] theorem phaseTriac_inp (s : State) : (after phaseTriac s).inp = s.inp := by
  rw [phaseTriac_frame]
@[simp] theorem phaseTriac_ml (s : State) : (after phaseTriac s).ml = s.ml := by
  rw [phaseTriac_frame]
@[simp] theorem phaseTriac_sys (s : State) : (after phaseTriac s).sys = s.sys := by
  rw [phaseTriac_frame]
@[simp] theorem phaseTriac_ms (s : State) : (after phaseTriac s).ms = s.ms := by
  rw [phaseTriac_frame]
@[simp] theorem phaseTriac_cap (s : State) : (after phaseTriac s).cap = s.cap := by
  rw [phaseTriac_frame]
@[simp] theorem phaseTriac_se (s : State) : (after phaseTriac s).se = s.se := by
  rw [phaseTriac_frame]
@[simp] theorem phaseTriac_ctl (s : State) : (after phaseTriac s).ctl = s.ctl := by
  rw [phaseTriac_frame]
@[simp] theorem phaseTriac_tm (s : State) : (after phaseTriac s).tm = s.tm := by
  rw [phaseTriac_frame]
@[simp] theorem phaseTriac_sf (s : State) : (after phaseTriac s).sf = s.sf := by
  rw [phaseTriac_frame]
@[simp] theorem phaseTriac_post (s : State) : (after phaseTriac s).post = s.post := by
  rw [phaseTriac_frame]
@[simp] theorem phaseTriac_cfg (s : State) : (after phaseTriac s).cfg = s.cfg := by
  rw [phaseTriac_frame]
@[simp] theorem phaseTriac_trace (s : State) : (after phaseTriac s).trace = s.trace := by
  rw [phaseTriac_frame]
@[simp] theorem phaseTriac_irq_tacho (s : State) : (after phaseTriac s).irq.tacho = s.irq.tacho := by
  rw [phaseTriac_frame]
@[simp] theorem phaseTriac_out_secN (s : State) : (after phaseTriac s).out.secN = s.out.secN := by
  rw [phaseTriac_frame]

/-- The shutoff votes, the stage outputs and the hand-over change the system cells, the trigger, the monitor's
instants and the integral; nothing else (R270, R271). -/
theorem stageOutputs_frame (now : Instant16) (v : MainView) :
    stageOutputs now v =
      { v with sys := (stageOutputs now v).sys, tr := { v.tr with offset := (stageOutputs now v).tr.offset },
               sf := (stageOutputs now v).sf, ctl := (stageOutputs now v).ctl } := by
  unfold stageOutputs
  split <;> rfl

/-- The zero-crossing bookkeeping changes the monitor's cells; nothing else (R242). -/
theorem zeroCrossingCheck_frame (now : Instant16) (zc : Bool) (v : MainView) :
    zeroCrossingCheck now zc v = { v with sf := (zeroCrossingCheck now zc v).sf } := by
  unfold zeroCrossingCheck
  dsimp only
  split <;> rfl

/-- A safety cycle changes the monitor's cells; nothing else (R244 to R250). -/
theorem safetyCycle_frame (now : Instant16) (sp speed : Q) (v : MainView) :
    safetyCycle now sp speed v = { v with sf := (safetyCycle now sp speed v).sf } := by
  unfold safetyCycle
  dsimp only
  split <;> rfl

/-- The safety step changes the monitor's cells; nothing else (R253). -/
theorem safetyStep_frame (now : Instant16) (sp speed : Q) (zc : Bool) (v : MainView) :
    safetyStep now sp speed zc v = { v with sf := (safetyStep now sp speed zc v).sf } := by
  unfold safetyStep
  dsimp only
  split
  · rw [safetyCycle_frame, zeroCrossingCheck_frame]
  · rw [zeroCrossingCheck_frame]

/-- The temperature step changes the temperature cells; nothing else (R226). -/
theorem tempStep_frame (v : MainView) : tempStep v = { v with tm := (tempStep v).tm } := rfl

/-- A control tick changes the temperature cells, the controller and the trigger offset; nothing else (R288). -/
theorem housekeeping_frame (sp : Q) (speed : Option Q) (v : MainView) :
    housekeeping sp speed v =
      { v with tm := (tempStep v).tm, ctl := (housekeeping sp speed v).ctl,
               tr := { v.tr with offset := (housekeeping sp speed v).tr.offset } } := rfl

/-- The switch between `Syncing` and `Running` changes the system state and the integral; nothing else (R287). -/
theorem switchLoop_frame (sp : Q) (speed : Option Q) (v : MainView) :
    switchLoop sp speed v =
      { v with sys := { v.sys with state := (switchLoop sp speed v).sys.state },
               ctl := { v.ctl with i := (switchLoop sp speed v).ctl.i } } := by
  unfold switchLoop
  split
  · rfl
  · split <;> rfl

/-- The control path changes the system cells, the controller, the temperature cells, the trigger offset and the
monitor; nothing else (R286 to R289). -/
theorem controlPath_frame (now : Instant16) (due : Bool) (v : MainView) :
    controlPath now due v =
      { v with sys := (controlPath now due v).sys, ctl := (controlPath now due v).ctl,
               tm := (controlPath now due v).tm, tr := { v.tr with offset := (controlPath now due v).tr.offset },
               sf := (controlPath now due v).sf } := by
  unfold controlPath decideShutoff
  dsimp only
  rw [safetyStep_frame]
  cases due
  · simp only [Bool.false_eq_true, if_false]
    rw [switchLoop_frame]
    rfl
  · simp only [if_true]
    rw [housekeeping_frame, switchLoop_frame]
    rfl

/-- `DISPATCH` changes the system cells, the self-test, the controller, the temperature cells, the trigger offset and
the monitor; nothing else (R283). -/
theorem dispatchAt_frame (now : Instant16) (v : MainView) :
    dispatchAt now v =
      { v with sys := (dispatchAt now v).sys, post := (dispatchAt now v).post, ctl := (dispatchAt now v).ctl,
               tm := (dispatchAt now v).tm, tr := { v.tr with offset := (dispatchAt now v).tr.offset },
               sf := (dispatchAt now v).sf } := by
  unfold dispatchAt dispatchState
  split
  · unfold startupStep
    split <;> rfl
  · unfold postStep
    rw [stageOutputs_frame]
    rfl
  · rw [controlPath_frame]
    rfl
  · rw [controlPath_frame]
    rfl

/-- A phase `DISPATCH` changes the clock's fold and the cells of `dispatchAt_frame`; nothing else (R283). -/
theorem phaseDispatch_frame (s : State) :
    after phaseDispatch s =
      { s with clk := foldClock s.clk, sys := (after phaseDispatch s).sys, post := (after phaseDispatch s).post,
               ctl := (after phaseDispatch s).ctl, tm := (after phaseDispatch s).tm,
               tr := { s.tr with offset := (after phaseDispatch s).tr.offset }, sf := (after phaseDispatch s).sf } := by
  rw [phaseDispatch_spec, dispatchAt_frame]
  rfl

@[simp] theorem phaseDispatch_clk (s : State) : (after phaseDispatch s).clk = foldClock s.clk := by
  rw [phaseDispatch_frame]
@[simp] theorem phaseDispatch_wd (s : State) : (after phaseDispatch s).wd = s.wd := by
  rw [phaseDispatch_frame]
@[simp] theorem phaseDispatch_inp (s : State) : (after phaseDispatch s).inp = s.inp := by
  rw [phaseDispatch_frame]
@[simp] theorem phaseDispatch_irq (s : State) : (after phaseDispatch s).irq = s.irq := by
  rw [phaseDispatch_frame]
@[simp] theorem phaseDispatch_ml (s : State) : (after phaseDispatch s).ml = s.ml := by
  rw [phaseDispatch_frame]
@[simp] theorem phaseDispatch_ms (s : State) : (after phaseDispatch s).ms = s.ms := by
  rw [phaseDispatch_frame]
@[simp] theorem phaseDispatch_cap (s : State) : (after phaseDispatch s).cap = s.cap := by
  rw [phaseDispatch_frame]
@[simp] theorem phaseDispatch_se (s : State) : (after phaseDispatch s).se = s.se := by
  rw [phaseDispatch_frame]
@[simp] theorem phaseDispatch_out (s : State) : (after phaseDispatch s).out = s.out := by
  rw [phaseDispatch_frame]
@[simp] theorem phaseDispatch_pt (s : State) : (after phaseDispatch s).pt = s.pt := by
  rw [phaseDispatch_frame]
@[simp] theorem phaseDispatch_cfg (s : State) : (after phaseDispatch s).cfg = s.cfg := by
  rw [phaseDispatch_frame]
@[simp] theorem phaseDispatch_trace (s : State) : (after phaseDispatch s).trace = s.trace := by
  rw [phaseDispatch_frame]
@[simp] theorem phaseDispatch_tr_pending (s : State) : (after phaseDispatch s).tr.pending = s.tr.pending := by
  rw [phaseDispatch_frame]

/-! What each arm of `exec` is, said over the programs (R84, R86). -/

theorem exec_tick (s : State) : exec .tick s = whenEnabled (tickEnabled s) (after tickBody s) := rfl
theorem exec_envMains (level : Bool) (s : State) :
    exec (.envMains level) s = .next (after (updateInputs fun v => { v with mains := level }) s) := rfl
theorem exec_envTacho (s : State) : exec .envTacho s = .next (after (Program.access .requestTacho) s) := rfl
theorem exec_envAdcSetpoint (code : AdcCode) (s : State) :
    exec (.envAdcSetpoint code) s = .next (after (adcSet 0 code) s) := rfl
theorem exec_envAdcShunt0 (code : AdcCode) (s : State) :
    exec (.envAdcShunt0 code) s = .next (after (adcSet 1 code) s) := rfl
theorem exec_envAdcShunt1 (code : AdcCode) (s : State) :
    exec (.envAdcShunt1 code) s = .next (after (adcSet 2 code) s) := rfl
theorem exec_envAdcMottemp (code : AdcCode) (s : State) :
    exec (.envAdcMottemp code) s = .next (after (adcSet 3 code) s) := rfl
theorem exec_envAdcDietemp (code : AdcCode) (s : State) :
    exec (.envAdcDietemp code) s = .next (after (adcSet 4 code) s) := rfl
theorem exec_envAfeFail (s : State) :
    exec .envAfeFail s = .next (after (updateInputs fun v => { v with afeFailure := true }) s) := rfl
theorem exec_envRtfault (level : Bool) (s : State) :
    exec (.envRtfault level) s = .next (after (updateInputs fun v => { v with rtfault := level }) s) := rfl
theorem exec_irqMains (s : State) : exec .irqMains s = whenEnabled (!s.wd.halted) s := rfl
theorem exec_irqTacho (s : State) :
    exec .irqTacho s = whenEnabled (s.irq.tacho && !s.wd.halted) (after (tachoHandler .irq) s) := rfl
theorem exec_irqPulse (s : State) :
    exec .irqPulse s = whenEnabled (s.irq.pt && !s.wd.halted) (after (pulseHandler .irq) s) := rfl
theorem exec_irqUart (s : State) : exec .irqUart s = whenEnabled (!s.wd.halted) s := rfl
theorem exec_mainStep (s : State) :
    exec .mainStep s = whenEnabled (!s.wd.halted) (after advancePhase (after performPhase s)) := rfl
theorem exec_wdtReset (s : State) : exec .wdtReset s = whenEnabled (watchdogExpired s) (resetCells s) := rfl
theorem exec_por (s : State) : exec .por s = .next (resetCells s) := rfl
theorem exec_halt (s : State) : exec .halt s = .next { s with wd := { s.wd with halted := true } } := rfl
theorem exec_looptime (s : State) : exec .looptime s = .next (after phaseLooptime s) := rfl
theorem exec_mains (s : State) : exec .mains s = .next (after phaseMains s) := rfl
theorem exec_speed (s : State) : exec .speed s = .next (after phaseSpeed s) := rfl
theorem exec_dispatch (s : State) : exec .dispatch s = .next (after phaseDispatch s) := rfl
theorem exec_triac (s : State) : exec .triac s = .next (after phaseTriac s) := rfl
theorem exec_output (s : State) : exec .output s = .next (after phaseOutput s) := rfl
theorem exec_wdt (s : State) : exec .wdt s = .next (after phaseWdt s) := rfl

/-- An outcome answers next exactly under an admitted configuration (R9). -/
theorem whenAdmitted_next_iff {c : Cfg} {o : Host.Outcome State Fault Refusal} {t : State} :
    whenAdmitted c o = .next t ↔ c.wf = true ∧ o = .next t := by
  cases h : c.wf <;> simp [whenAdmitted, h]

/-- The typed meaning of an operation answers what `exec` does (R63). -/
@[simp] theorem meaningOf_val (i : Instr) (s : State) : (meaningOf i).val s = exec i s := (rfl)

/-- A word's operation answers next exactly when the word is legal and the operation does (R85). -/
theorem runWord_next_iff {w : Word} {s t : State} :
    runWord w s = .next t ↔ ∃ i, decodeEvent w = some i ∧ exec i s = .next t := by
  cases h : decodeEvent w <;> simp [runWord, h]

/-- What a step that answers next did: an admitted configuration, a legal word at the head of the trace, and the
decoded operation's meaning on the state with that word taken (R81, R85, R86). -/
theorem step_next_iff {s t : State} :
    step s = .next t ↔
      s.cfg.wf = true ∧ ∃ w rest i, s.trace = w :: rest ∧ decodeEvent w = some i ∧
        exec i { s with trace := rest } = .next t := by
  cases h : s.trace <;>
    simp [step, h, nextEvent, whenAdmitted_next_iff, runWord_next_iff, and_assoc]

end Sys2Proof.Laws
end

