-- ==== Sys2Proof/Laws/PerInstr.lean ====
section
/-! SUPPORT. Per-instruction facts about the syntax: the encoding of every instruction fits a row of
spec/opcode_table.json. -/

namespace Sys2Proof.Laws

/-- An event word whose last bits are an analog code fits the code's row (R83, R84). -/
theorem fitsRow_code (op : BitVec 5) (code : AdcCode) :
    fitsRow (eventWord op (codeArg code)) (op ++ (0 : BitVec 11), 0xFC00) = true := by
  simp only [fitsRow, eventWord, codeArg, beq_iff_eq]
  apply BitVec.eq_of_getLsbD_eq
  intro k hk
  simp only [BitVec.getLsbD_and, BitVec.getLsbD_append (n := 5) (m := 11)]
  interval_cases k <;> simp

/-- The encoding fits the opcode table: an event word fits one of the rows of format E (R81, R84); a phase code is
below 7 and is no event word (R82). -/
def EncodingFitsTable.Statement (i : Instr) : Prop :=
  match encode i with
  | .event w => i.isEvent = true ∧ ∃ row ∈ eventRows, fitsRow w row = true
  | .phase p => i.isEvent = false ∧ p.toNat < 7

theorem EncodingFitsTable.tick : EncodingFitsTable.Statement .tick := ⟨rfl, by decide⟩
theorem EncodingFitsTable.envMains (level : Bool) : EncodingFitsTable.Statement (.envMains level) := by
  cases level <;> exact ⟨rfl, by decide⟩
theorem EncodingFitsTable.envTacho : EncodingFitsTable.Statement .envTacho := ⟨rfl, by decide⟩
theorem EncodingFitsTable.envAdcSetpoint (code : AdcCode) : EncodingFitsTable.Statement (.envAdcSetpoint code) :=
  ⟨rfl, _, by decide, fitsRow_code 0x04 code⟩
theorem EncodingFitsTable.envAdcShunt0 (code : AdcCode) : EncodingFitsTable.Statement (.envAdcShunt0 code) :=
  ⟨rfl, _, by decide, fitsRow_code 0x05 code⟩
theorem EncodingFitsTable.envAdcShunt1 (code : AdcCode) : EncodingFitsTable.Statement (.envAdcShunt1 code) :=
  ⟨rfl, _, by decide, fitsRow_code 0x06 code⟩
theorem EncodingFitsTable.envAdcMottemp (code : AdcCode) : EncodingFitsTable.Statement (.envAdcMottemp code) :=
  ⟨rfl, _, by decide, fitsRow_code 0x07 code⟩
theorem EncodingFitsTable.envAdcDietemp (code : AdcCode) : EncodingFitsTable.Statement (.envAdcDietemp code) :=
  ⟨rfl, _, by decide, fitsRow_code 0x08 code⟩
theorem EncodingFitsTable.envAfeFail : EncodingFitsTable.Statement .envAfeFail := ⟨rfl, by decide⟩
theorem EncodingFitsTable.envRtfault (level : Bool) : EncodingFitsTable.Statement (.envRtfault level) := by
  cases level <;> exact ⟨rfl, by decide⟩
theorem EncodingFitsTable.irqMains : EncodingFitsTable.Statement .irqMains := ⟨rfl, by decide⟩
theorem EncodingFitsTable.irqTacho : EncodingFitsTable.Statement .irqTacho := ⟨rfl, by decide⟩
theorem EncodingFitsTable.irqPulse : EncodingFitsTable.Statement .irqPulse := ⟨rfl, by decide⟩
theorem EncodingFitsTable.irqUart : EncodingFitsTable.Statement .irqUart := ⟨rfl, by decide⟩
theorem EncodingFitsTable.mainStep : EncodingFitsTable.Statement .mainStep := ⟨rfl, by decide⟩
theorem EncodingFitsTable.wdtReset : EncodingFitsTable.Statement .wdtReset := ⟨rfl, by decide⟩
theorem EncodingFitsTable.por : EncodingFitsTable.Statement .por := ⟨rfl, by decide⟩
theorem EncodingFitsTable.halt : EncodingFitsTable.Statement .halt := ⟨rfl, by decide⟩
theorem EncodingFitsTable.looptime : EncodingFitsTable.Statement .looptime := ⟨rfl, by decide⟩
theorem EncodingFitsTable.mains : EncodingFitsTable.Statement .mains := ⟨rfl, by decide⟩
theorem EncodingFitsTable.speed : EncodingFitsTable.Statement .speed := ⟨rfl, by decide⟩
theorem EncodingFitsTable.dispatch : EncodingFitsTable.Statement .dispatch := ⟨rfl, by decide⟩
theorem EncodingFitsTable.triac : EncodingFitsTable.Statement .triac := ⟨rfl, by decide⟩
theorem EncodingFitsTable.output : EncodingFitsTable.Statement .output := ⟨rfl, by decide⟩
theorem EncodingFitsTable.wdt : EncodingFitsTable.Statement .wdt := ⟨rfl, by decide⟩

end Sys2Proof.Laws
end

