-- ==== Sys2Proof/Tests/Slice0.lean ====
section
/-! SUPPORT. Tests: the configuration checks on ill-formed terms, decoding of words written out from
spec/30_encoding.md, single steps of the spec's own examples, and for every statement with hypotheses a state and
operands that meet them. -/

namespace Sys2Proof.Tests

open Sys2Proof.Machine Sys2Proof.Safety

/-- A part of the next state, if there is one. -/
def seen {α : Type} (o : Host.Outcome State Fault Refusal) (f : State → α) : Option α :=
  match o with
  | .next t => some (f t)
  | .fault _ => none
  | .refused _ => none

/-- The reason of a refusal, if there is one. -/
def refusal (o : Host.Outcome State Fault Refusal) : Option Refusal :=
  match o with
  | .next _ => none
  | .fault _ => none
  | .refused r => some r

/-! ## Well-formedness: the check passes on `TVCFG`, and each check refuses an ill-formed term -/

theorem test_wf_tvcfg : Config.tvcfg.wf = true := by decide
theorem test_refuses_halfRangeOk : Cfg.halfRangeOk { Config.tvcfg with startupDelay := 0x8000 } = false ∧
    Cfg.wf { Config.tvcfg with startupDelay := 0x8000 } = false := by decide
theorem test_refuses_halfWaveOk : Cfg.halfWaveOk { Config.tvcfg with ctrlOffset := 200 } = false ∧
    Cfg.wf { Config.tvcfg with ctrlOffset := 200 } = false := by decide
theorem test_refuses_shortTimerOk : Cfg.shortTimerOk { Config.tvcfg with pulseWidth := 128 } = false ∧
    Cfg.wf { Config.tvcfg with pulseWidth := 128 } = false := by decide
theorem test_refuses_pulseCountOk : Cfg.pulseCountOk { Config.tvcfg with pulseCountFn := .reference 0 3 } = false ∧
    Cfg.wf { Config.tvcfg with pulseCountFn := .reference 0 3 } = false := by decide
theorem test_refuses_divisorsOk : Cfg.divisorsOk { Config.tvcfg with speedLpDiv := 0 } = false ∧
    Cfg.wf { Config.tvcfg with speedLpDiv := 0 } = false := by decide
theorem test_refuses_confidenceOk : Cfg.confidenceOk { Config.tvcfg with confMax := 3 } = false ∧
    Cfg.wf { Config.tvcfg with confMax := 3 } = false := by decide
theorem test_refuses_curvesOk : Cfg.curvesOk { Config.tvcfg with trigCurve := [⟨0, 190⟩, ⟨0, 10⟩] } = false ∧
    Cfg.wf { Config.tvcfg with trigCurve := [⟨0, 190⟩, ⟨0, 10⟩] } = false := by decide
theorem test_refuses_integralLimitsOk :
    Cfg.integralLimitsOk { Config.tvcfg with ilimNegCurve := [⟨0, 1⟩, ⟨2560, 0⟩] } = false ∧
    Cfg.wf { Config.tvcfg with ilimNegCurve := [⟨0, 1⟩, ⟨2560, 0⟩] } = false := by decide
theorem test_refuses_hysteresisOk :
    Cfg.hysteresisOk { Config.tvcfg with
      temp := #v[{ Config.tvcfg.temp[0] with lo := 23040 }, Config.tvcfg.temp[1]] } = false ∧
    Cfg.wf { Config.tvcfg with
      temp := #v[{ Config.tvcfg.temp[0] with lo := 23040 }, Config.tvcfg.temp[1]] } = false := by decide
theorem test_refuses_debounceOk : Cfg.debounceOk { Config.tvcfg with dbDec := 10 } = false ∧
    Cfg.wf { Config.tvcfg with dbDec := 10 } = false := by decide
theorem test_refuses_watchdogOk : Cfg.watchdogOk { Config.tvcfg with wdtTimeout := 0 } = false ∧
    Cfg.wf { Config.tvcfg with wdtTimeout := 0 } = false := by decide
theorem test_refuses_speedNumOk : Cfg.speedNumOk { Config.tvcfg with speedFn := .reciprocal 0 } = false ∧
    Cfg.wf { Config.tvcfg with speedFn := .reciprocal 0 } = false := by decide
theorem test_refuses_sourceValuesOk : Cfg.sourceValuesOk { Config.tvcfg with confThreshold := 3 } = false ∧
    Cfg.wf { Config.tvcfg with confThreshold := 3 } = false ∧
    Cfg.wf { Config.tvcfg with cadenceMissFactor := 4 } = false := by decide
theorem test_phase_is_no_event : Instr.isEvent .looptime = false ∧ Instr.isEvent .wdt = false ∧
    Instr.isEvent .tick = true := by decide

/-! ## Decoding: words written out bit by bit from the tables of R82 to R84 -/

theorem test_decode_tick : decodeTableWord 16 0b0000100000000000 = some (.tick) := by decide
theorem test_decode_envMains : decodeTableWord 16 0b0001000000000001 = some (.envMains true) := by decide
theorem test_decode_envTacho : decodeTableWord 16 0b0001100000000000 = some (.envTacho) := by decide
theorem test_decode_envAdcSetpoint : decodeTableWord 16 0b0010001000000000 = some (.envAdcSetpoint 512) := by decide
theorem test_decode_envAdcShunt0 : decodeTableWord 16 0b0010100000000001 = some (.envAdcShunt0 1) := by decide
theorem test_decode_envAdcShunt1 : decodeTableWord 16 0b0011001111111111 = some (.envAdcShunt1 1023) := by decide
theorem test_decode_envAdcMottemp : decodeTableWord 16 0b0011100100101100 = some (.envAdcMottemp 300) := by decide
theorem test_decode_envAdcDietemp : decodeTableWord 16 0b0100000000000010 = some (.envAdcDietemp 2) := by decide
theorem test_decode_envAfeFail : decodeTableWord 16 0b0100100000000000 = some (.envAfeFail) := by decide
theorem test_decode_envRtfault : decodeTableWord 16 0b0101000000000001 = some (.envRtfault true) := by decide
theorem test_decode_irqMains : decodeTableWord 16 0b0101100000000000 = some (.irqMains) := by decide
theorem test_decode_irqTacho : decodeTableWord 16 0b0110000000000000 = some (.irqTacho) := by decide
theorem test_decode_irqPulse : decodeTableWord 16 0b0110100000000000 = some (.irqPulse) := by decide
theorem test_decode_irqUart : decodeTableWord 16 0b0111000000000000 = some (.irqUart) := by decide
theorem test_decode_mainStep : decodeTableWord 16 0b0111100000000000 = some (.mainStep) := by decide
theorem test_decode_wdtReset : decodeTableWord 16 0b1000000000000000 = some (.wdtReset) := by decide
theorem test_decode_por : decodeTableWord 16 0b1000100000000000 = some (.por) := by decide
theorem test_decode_halt : decodeTableWord 16 0b1001000000000000 = some (.halt) := by decide
theorem test_decode_looptime : decodeTableWord 8 0b000 = some .looptime := by decide
theorem test_decode_mains : decodeTableWord 8 0b001 = some .mains := by decide
theorem test_decode_speed : decodeTableWord 8 0b010 = some .speed := by decide
theorem test_decode_dispatch : decodeTableWord 8 0b011 = some .dispatch := by decide
theorem test_decode_triac : decodeTableWord 8 0b100 = some .triac := by decide
theorem test_decode_output : decodeTableWord 8 0b101 = some .output := by decide
theorem test_decode_wdt : decodeTableWord 8 0b110 = some .wdt := by decide
/-- R85: the all-zero word, the all-one word, an `op` past the map, a set must-be-zero bit of each kind. -/
theorem test_illegal_words : decodeEvent 0x0000 = none ∧ decodeEvent 0xFFFF = none ∧ decodeEvent 0x9800 = none ∧
    decodeEvent 0x0801 = none ∧ decodeEvent 0x1002 = none ∧ decodeEvent 0x2400 = none ∧
    decodeTableWord 8 7 = none := by decide
theorem test_encode : encode (.envMains true) = .event 0x1001 ∧ encode (.envAdcSetpoint 512) = .event 0x2200 ∧
    encode .triac = .phase 4 := by decide

/-! ## Single steps, from the examples of the rules -/

/-- The reset state with a clock. -/
def clockAt (t : Word) : State :=
  { State.reset with clk := { tcnt := t.extractLsb' 0 8, tov := false, hi := t.extractLsb' 8 8 } }

/-- R310. -/
theorem test_tick : seen (exec .tick { State.reset with
      clk := { tcnt := 0xFF, tov := false, hi := 0 }, pt := { State.reset.pt with enabled := true, ocr := 0 },
      wd := { count := 7, halted := false } })
    (fun t => (t.clk.tcnt, t.clk.tov, t.irq.pt, t.wd.count)) = some (0, true, true, 8) := by decide
/-- R310, R343: an expired watchdog stops the ticks and enables its reset. -/
theorem test_tick_expired :
    refusal (exec .tick { State.reset with wd := { count := 500, halted := false } }) = some .stepDisabled ∧
    seen (exec .wdtReset { State.reset with wd := { count := 500, halted := true } })
      (fun t => (t.wd.count, t.wd.halted)) = some (0, false) := by decide
/-- R343: before that it is not enabled. -/
theorem test_wdtReset_early : refusal (exec .wdtReset { State.reset with wd := { count := 499, halted := false } }) =
    some .stepDisabled := by decide
/-- R116. -/
theorem test_now_large :
    nowOf { State.reset with clk := { tcnt := 0x03, tov := true, hi := 0x12 } } = 0x1303 := by decide
/-- R311, R315. -/
theorem test_levels : seen (exec (.envMains true) State.reset) (fun t => (t.inp.mains, t.inp.rtfault)) =
    some (true, false) ∧
    seen (exec (.envRtfault true) State.reset) (fun t => (t.inp.mains, t.inp.rtfault)) = some (false, true) := by decide
/-- R312, R314. -/
theorem test_latches : seen (exec .envTacho State.reset) (fun t => t.irq.tacho) = some true ∧
    seen (exec .envAfeFail State.reset) (fun t => t.inp.afeFailure) = some true := by decide
/-- R313, R94. -/
theorem test_conversions :
    seen (exec (.envAdcSetpoint 512) State.reset) (fun t => t.inp.adc) =
      some #v[some 512, none, none, none, none] ∧
    seen (exec (.envAdcShunt0 1) State.reset) (fun t => t.inp.adc) = some #v[none, some 1, none, none, none] ∧
    seen (exec (.envAdcShunt1 2) State.reset) (fun t => t.inp.adc) = some #v[none, none, some 2, none, none] ∧
    seen (exec (.envAdcMottemp 3) State.reset) (fun t => t.inp.adc) = some #v[none, none, none, some 3, none] ∧
    seen (exec (.envAdcDietemp 4) State.reset) (fun t => t.inp.adc) = some #v[none, none, none, none, some 4] := by
  decide
/-- R166, R167. -/
theorem test_irqTacho :
    seen (exec .irqTacho { clockAt 0x0132 with irq := { tacho := true, pt := false } })
      (fun t => (t.cap.new, t.cap.ts, t.irq.tacho)) = some (true, 0x0132, false) ∧
    seen (exec .irqTacho { clockAt 0x0140 with irq := { tacho := true, pt := false }, cap := { new := true, ts := 5 } })
      (fun t => (t.cap.new, t.cap.ts, t.irq.tacho)) = some (true, 5, false) := by decide
/-- R197. -/
theorem test_irqPulse_sets : seen (exec .irqPulse { clockAt 0x000A with
      irq := { tacho := false, pt := true },
      pt := { enabled := true, ocr := 0x0A, phase := .gateSet, remaining := 2 } })
    (fun t => (t.out.gateN, t.pt.phase, t.pt.ocr, t.pt.remaining)) = some (false, .gateClear, 0x0C, 2) := by decide
/-- R197. -/
theorem test_irqPulse_clears : seen (exec .irqPulse { clockAt 0x000C with
      irq := { tacho := false, pt := true },
      out := { gateN := false, secN := true },
      pt := { enabled := true, ocr := 0x0C, phase := .gateClear, remaining := 2 } })
    (fun t => (t.out.gateN, t.pt.phase, t.pt.ocr, t.pt.remaining)) = some (true, .gateSet, 0x0E, 1) := by decide
/-- R337, R338, R341: a halted core takes no handler. -/
theorem test_halt : seen (exec .halt State.reset) (fun t => t.wd.halted) = some true ∧
    refusal (exec .irqMains { State.reset with wd := { count := 0, halted := true } }) = some .stepDisabled ∧
    refusal (exec .irqUart { State.reset with wd := { count := 0, halted := true } }) = some .stepDisabled ∧
    refusal (exec .mainStep { State.reset with wd := { count := 0, halted := true } }) = some .stepDisabled := by decide
/-- R316: the levels survive, the rest does not. -/
theorem test_por : seen (exec .por { clockAt 0x1234 with
      inp := { mains := true, rtfault := true, adc := #v[some 1, none, none, none, none], afeFailure := true } })
    (fun t => (t.clk.hi, t.inp.mains, t.inp.rtfault, t.inp.adc[0], t.inp.afeFailure)) =
      some (0, true, true, none, false) := by decide
/-- R281. -/
theorem test_mainStep : seen (exec .mainStep { State.reset with
      ml := { State.reset.ml with pc := 6 }, wd := { count := 37, halted := false } })
    (fun t => (t.wd.count, t.ml.pc)) = some (0, 0) := by decide
/-- R282. -/
theorem test_looptime : seen (exec .looptime { clockAt 0x0203 with ml := { State.reset.ml with lastStart := 0x01F0 } })
    (fun t => (t.ml.diagLoopRuntime, t.ml.lastStart)) = some (0x0013, 0x0203) := by decide
/-- R158. -/
theorem test_mains_timed : seen (exec .mains { clockAt 0x02EA with
      ms := { phase := .positiveHalfwave, ref := 0x0220, prevPin := true, transition := false } })
    (fun t => (t.ms.phase, t.ms.ref, t.ms.transition)) = some (.negativeHalfwave, 0x02E8, true) := by decide
/-- R154: a rise before the minimum spacing is dropped. -/
theorem test_mains_spacing : seen (exec .mains { clockAt 149 with
      inp := { State.reset.inp with mains := true },
      ms := { phase := .negativeHalfwave, ref := 0, prevPin := false, transition := true } })
    (fun t => (t.ms.phase, t.ms.ref, t.ms.prevPin, t.ms.transition)) =
      some (.negativeHalfwave, 0, true, false) := by decide
/-- R168. -/
theorem test_speed : seen (exec .speed { State.reset with
      cap := { new := true, ts := 200 },
      se := { lastEdge := 150, win := #v[50, 50, 50, 50], widx := 3, conf := 4, filt := 1280 } })
    (fun t => (t.se.filt, t.se.widx, t.se.conf, t.se.lastEdge, t.cap.new)) = some (2240, 0, 4, 200, false) := by decide
/-- R186. -/
theorem test_triac : seen (exec .triac { clockAt 0x0314 with
      ms := { State.reset.ms with ref := 0x0300 },
      sys := { State.reset.sys with primaryShutoff := false }, tr := { pending := true, offset := 100 } })
    (fun t => (t.pt.ocr, t.pt.remaining, t.pt.enabled, t.tr.pending)) = some (0x64, 1, true, false) := by decide
/-- R190. -/
theorem test_triac_never : seen (exec .triac { clockAt 0x0314 with
      ms := { State.reset.ms with ref := 0x0300 },
      sys := { State.reset.sys with primaryShutoff := false }, tr := { pending := true, offset := 0xFFFF } })
    (fun t => (t.pt.enabled, t.tr.pending)) = some (false, false) := by decide
/-- R284. -/
theorem test_dispatch_startup : seen (exec .dispatch (clockAt 500)) (fun t => (t.sys.state, t.post.t0)) =
    some (.selfTest, 500) ∧ seen (exec .dispatch (clockAt 499)) (fun t => t.sys.state) = some .startup := by decide
/-- R272: the third call of the example. -/
theorem test_dispatch_selfTest : seen (exec .dispatch { clockAt 1450 with
      sys := { State.reset.sys with state := .selfTest }, post := { stage := .checkSecondaryPath, t0 := 1100 },
      se := { State.reset.se with conf := 4, filt := 3 } })
    (fun t => (t.post.stage, t.sys.primaryShutoff, t.sys.secondaryShutoff)) = some (.error, true, true) := by decide
/-- R290, R291. -/
theorem test_output_wdt :
    seen (exec .output { State.reset with sys := { State.reset.sys with secondaryShutoff := false } })
      (fun t => t.out.secN) = some false ∧
    seen (exec .wdt { State.reset with wd := { count := 37, halted := false } }) (fun t => t.wd.count) = some 0 := by
  decide

/-- R63: outside the interrupt context and the main loop's groups there is no critical-section token. -/
theorem test_no_critical_token : (CsToken .main → False) ∧ (CsToken .env → False) ∧ (CsToken .timebase → False) ∧
    (CsToken .watchdog → False) := by
  refine ⟨?_, ?_, ?_, ?_⟩ <;> intro tok <;> cases tok
/-! ## The procedures and the arithmetic, from the examples of the rules -/

/-- R212, R220. -/
theorem test_controller :
    (ctrlStep 5120 (some 4608) false
      { mainView State.reset with ctl := { i := 100, prevE := 256, out := 0 } }).ctl =
    { i := 228, prevE := 512, out := 868 } ∧ curveEval Config.tvcfg.trigCurve 868 = 159 := by decide
/-- R226. -/
theorem test_temperature : tempChannelNext Config.tvcfg.temp[0] (some 300) 20000 false = (21520, false) := by decide
/-- R253. -/
theorem test_safety : (safetyStep 1000 5120 26000 false (mainView State.reset)).sf.count = 9 := by decide
/-- R113. -/
theorem test_order : iGe (0x0005 : Word) 0xFFF0 = true ∧
    iGe (0x7FFF : Word) 0 = true ∧ iGe (0x8000 : Word) 0 = false ∧
    sdelta (0x10 : Byte) 0xF0 = 32 ∧ iGe (0x80 : Byte) 0x00 = false := by decide
/-- R119, R121, R122. -/
theorem test_fixed_point : qadd 32000 1000 = 32767 ∧ qsub (-32768) 1 = -32768 ∧ qmul 384 (-640) = -960 ∧
    qmul (-1) 1 = -1 ∧ qdiv 256 768 = 85 ∧ qdiv (-256) 768 = -85 ∧ qdiv (-5) 0 = -32768 := by decide
/-- R128, R193. -/
theorem test_filter_and_pulses : lpStep 100 104 4 = 101 ∧ lpStep 0 (-7) 4 = -1 ∧ pulseCount Config.tvcfg 10 = 3 ∧
    pulseCount Config.tvcfg 100 = 1 ∧ pulseCount Config.tvcfg 190 = 3 := by decide
/-- R88: a trace line and its expansion. -/
theorem test_expand : expandTrace [.rep 2 [.tacho], .adv 1] =
    [.envTacho, .irqTacho, .envTacho, .irqTacho, .tick] := by decide
/-- R82: a placed word, and a placed phase, is what the very next step runs. -/
theorem test_placed : seen (step (State.reset.withFetchWord 16 0x0800)) (fun t => t.clk.tcnt) = some 1 ∧
    seen (step (State.reset.withFetchWord 8 5)) (fun t => t.ml.pc) = some 6 := by decide

/-! ## Witnesses: for each statement with hypotheses, a state and operands that meet them, clause by clause -/

/-- The reset state with one word to come. -/
def toRun (w : Word) : State := { State.reset with trace := [w] }

/-- A state of the control path at a clock: `Running`, speed 256 with confidence, setpoint code 512. -/
def runningAt (t : Word) : State :=
  { clockAt t with
    sys := { state := .running, t0 := 0, primaryShutoff := false, secondaryShutoff := false, hkArmed := false }
    se := { State.reset.se with conf := 4, filt := 256 }
    inp := { State.reset.inp with adc := #v[some 512, none, none, none, none] } }

/-- A self-test stage begun at 0, at a clock. -/
def testingAt (stage : PostStage) (t : Word) : State :=
  { clockAt t with
    sys := { State.reset.sys with state := .selfTest }, post := { stage := stage, t0 := 0 } }

/-- A pending trigger of half-wave start 0, at a clock. -/
def pendingAt (offset t : Word) : State :=
  { clockAt t with
    sys := { State.reset.sys with primaryShutoff := false }, tr := { pending := true, offset := offset } }

/-- An armed pulse timer with its request. -/
def pulseDue (phase : PulsePhase) (remaining : Byte) : State :=
  { State.reset with
    irq := { tacho := false, pt := true }
    pt := { enabled := true, ocr := 0, phase := phase, remaining := remaining } }

/-- A machine held off by a tripped monitor. -/
def heldOffState : State :=
  { State.reset with
    sys := { State.reset.sys with state := .running }, sf := { State.reset.sf with count := 30 } }

theorem witness_LegalCodeHasOneMeaning : decodeEvent 0x43FF = some (.envAdcDietemp 1023) ∧
    decodePhase 6 = some .wdt := by decide
/-- The boundaries of each clause: the last legal and the first illegal word. -/
theorem witness_IllegalWordsRefused : (decodeEvent 0x07FF = none ∧ decodeEvent 0x9800 = none ∧
      decodeEvent 0x9000 ≠ none) ∧ (decodeEvent 0x1001 ≠ none ∧ decodeEvent 0x1002 = none) ∧
    (decodeEvent 0x23FF ≠ none ∧ decodeEvent 0x2400 = none) ∧ (decodeEvent 0x0800 ≠ none ∧ decodeEvent 0x0801 = none) ∧
    (toRun 0x0801).cfg.wf = true ∧ (toRun 0x0801).trace = 0x0801 :: [] := by decide
theorem witness_StepRunsDecodedEvent : (toRun 0x7800).cfg.wf = true ∧ (toRun 0x7800).trace = 0x7800 :: [] ∧
    decodeEvent 0x7800 = some .mainStep := by decide
theorem witness_StepWithoutOperation : (State.resetWith { Config.tvcfg with wdtTimeout := 0 }).cfg.wf = false ∧
    State.reset.cfg.wf = true ∧ State.reset.trace = [] := by decide
theorem witness_EnabledExactlyAsMapped : (Instr.isEvent .tick = true ∧ Instr.isEvent .irqTacho = true) ∧
    enabledWhen .tick State.reset ∧ ¬ enabledWhen .irqTacho State.reset ∧
    (toRun 0x0800).cfg.wf = true ∧ decodeEvent 0x0800 = some .tick ∧ enabledWhen .tick (toRun 0x0800) ∧
    decodeEvent 0x6000 = some .irqTacho ∧ ¬ enabledWhen .irqTacho (toRun 0x6000) := by
  unfold enabledWhen
  decide
theorem witness_ConfigKeptTraceConsumed : (∃ t, exec .tick State.reset = .next t) ∧
    ∃ t, step (toRun 0x0800) = .next t := ⟨⟨_, rfl⟩, ⟨_, rfl⟩⟩
theorem witness_TickResult : (499 : Nat) < State.reset.cfg.wdtTimeout ∧ State.reset.cfg.wdtTimeout ≤ 500 := by decide
theorem witness_ConversionsStored : ((0 : Fin 5), Instr.envAdcSetpoint 1023) ∈
      [((0 : Fin 5), Instr.envAdcSetpoint 1023), (1, .envAdcShunt0 1023), (2, .envAdcShunt1 1023),
        (3, .envAdcMottemp 1023), (4, .envAdcDietemp 1023)] ∧
    ((4 : Fin 5), Instr.envAdcDietemp 0) ∈ [((0 : Fin 5), Instr.envAdcSetpoint 0), (1, .envAdcShunt0 0),
      (2, .envAdcShunt1 0), (3, .envAdcMottemp 0), (4, .envAdcDietemp 0)] := by decide
theorem witness_LatchesUntilReset : ∃ s t : State, exec .envTacho s = .next t ∧ isReset .envTacho = false ∧
    s.inp.afeFailure = true ∧ s.wd.halted = true ∧ s.inp.adc[(0 : Fin 5)] ≠ none :=
  ⟨{ State.reset with
      inp := { State.reset.inp with adc := #v[some 0, none, none, none, none], afeFailure := true }
      wd := { count := 0, halted := true } }, _, rfl, rfl, rfl, rfl, by decide⟩
theorem witness_IdleHandlers : State.reset.wd.halted = false ∧
    ({ State.reset with wd := { count := 0, halted := true } } : State).wd.halted = true := by decide
theorem witness_HaltStopsCore : Instr.irqTacho ∈ [Instr.mainStep, .irqMains, .irqTacho, .irqPulse, .irqUart] ∧
    Instr.wdtReset ∉ [Instr.mainStep, .irqMains, .irqTacho, .irqPulse, .irqUart] ∧
    Instr.isEvent .wdtReset = true ∧ ∃ s : State, s.cfg.wdtTimeout ≤ s.wd.count ∧ enabledWhen .wdtReset s :=
  ⟨by decide, by decide, rfl, { State.reset with wd := { count := 500, halted := false } }, by decide,
    Nat.le_refl 500⟩
theorem witness_ResetsWriteEveryCell : State.reset.cfg.wdtTimeout ≤ 500 ∧ 499 < State.reset.cfg.wdtTimeout := by decide
/-- One tick from 499 still fits, one from 500 does not; a `MAIN_STEP` just before the poke, which lowers nothing. -/
theorem witness_WatchdogExpiresOnTime : (499 ≤ State.reset.cfg.wdtTimeout ∧ 499 + 1 ≤ State.reset.cfg.wdtTimeout ∧
      499 + 1 = State.reset.cfg.wdtTimeout ∧ 500 ≤ State.reset.cfg.wdtTimeout ∧
      State.reset.cfg.wdtTimeout < 500 + 1) ∧
    ∃ s t : State, exec .mainStep s = .next t ∧ isReset .mainStep = false ∧ s.ml.pc = 5 ∧ ¬ performs 6 .mainStep s := by
  refine ⟨by decide, { State.reset with ml := { State.reset.ml with pc := 5 } }, _, rfl, rfl, rfl, ?_⟩
  unfold performs
  decide
/-- One tick; and 257 ticks from 255, the least sum of the second clause. -/
theorem witness_ClockCountsTicks : (clockAt 255).clk.tov = false ∧
    seen (tickTimes 1 (clockAt 255)) (fun t => t.clk.tcnt) = some 0 ∧ (clockAt 255).clk.tcnt.toNat + 1 < 512 ∧
    seen (tickTimes 257 (clockAt 255)) (fun t => t.clk.tcnt) = some 0 ∧
    512 ≤ (clockAt 255).clk.tcnt.toNat + 257 ∧ (clockAt 255).clk.tcnt.toNat + 257 < 768 := by decide +kernel
theorem witness_TachoCaptureKeepsOldest : ∃ s u : State, s.irq.tacho = true ∧ s.wd.halted = false ∧ s.cap.new = false ∧
    u.irq.tacho = true ∧ u.wd.halted = false ∧ u.cap.new = true :=
  ⟨{ State.reset with irq := { tacho := true, pt := false } },
    { State.reset with irq := { tacho := true, pt := false }, cap := { new := true, ts := 0 } }, by decide⟩
theorem witness_PulseHandlerTogglesGate : (pulseDue .gateSet 1).irq.pt = true ∧
    (pulseDue .gateSet 1).wd.halted = false ∧ (pulseDue .gateSet 1).pt.phase = .gateSet ∧
    (pulseDue .gateClear 2).pt.phase = .gateClear ∧
    2 ≤ (pulseDue .gateClear 2).pt.remaining.toNat ∧ (pulseDue .gateClear 1).pt.remaining.toNat = 1 := by decide
/-- No tick after the handler, and exactly the pulse width, 2. -/
theorem witness_PulseLastsPulseWidth : 1 ≤ (pulseDue .gateSet 1).cfg.pulseWidth.toNat ∧
    (pulseDue .gateSet 1).pt.enabled = true ∧ (pulseDue .gateSet 1).pt.phase = .gateSet ∧
    ∃ t, exec .irqPulse (pulseDue .gateSet 1) = .next t ∧ (∃ u, tickTimes 0 t = .next u) ∧
      ∃ u, tickTimes 2 t = .next u := ⟨by decide, rfl, rfl, _, rfl, ⟨_, rfl⟩, ⟨_, rfl⟩⟩
theorem witness_MainStepPerformsPhase : State.reset.wd.halted = false ∧
    ({ State.reset with wd := { count := 0, halted := true } } : State).wd.halted = true ∧
    (∃ t, exec .por State.reset = .next t) ∧ isReset .por = true ∧ Instr.por ≠ .mainStep ∧
    (∃ t, exec .tick State.reset = .next t) ∧ isReset .tick = false ∧ Instr.tick ≠ .mainStep :=
  ⟨rfl, rfl, ⟨_, rfl⟩, rfl, by decide, ⟨_, rfl⟩, rfl, by decide⟩
/-- The token in its two contexts, and a program of each context that holds it; a step of each agent; then each pin's
edges. -/
theorem witness_PinsHaveTheirWriters :
    (Nonempty (CsToken .irq) ∧ Nonempty (CsToken .group) ∧
      after (tachoHandler .irq) State.reset ≠ State.reset ∧ after (ptCancel .group) (pulseDue .gateSet 1) ≠
        pulseDue .gateSet 1) ∧
    ((∃ t, exec .tick State.reset = .next t ∧ Instr.tick.agent = .timebase ∧ isReset .tick = false) ∧
      (∃ t, exec .halt State.reset = .next t ∧ Instr.halt.agent = .env ∧ isReset .halt = false) ∧
      (∃ t, exec .irqUart State.reset = .next t ∧ Instr.irqUart.agent = .irq ∧ isReset .irqUart = false) ∧
      (∃ t, exec .mainStep State.reset = .next t ∧ Instr.mainStep.agent = .main ∧ isReset .mainStep = false)) ∧
    (∃ t, exec .irqPulse (pulseDue .gateSet 1) = .next t ∧ (pulseDue .gateSet 1).out.gateN = true ∧
      t.out.gateN = false) ∧
    (∃ s t : State, exec .triac s = .next t ∧ s.out.gateN = false ∧ t.out.gateN = true) ∧
    (∃ s t : State, exec .output s = .next t ∧ t.out.secN ≠ s.out.secN) :=
  ⟨⟨⟨.irq⟩, ⟨.group⟩, by decide, by decide⟩,
    ⟨⟨_, rfl, rfl, rfl⟩, ⟨_, rfl, rfl, rfl⟩, ⟨_, rfl, rfl, rfl⟩, ⟨_, rfl, rfl, rfl⟩⟩, ⟨_, rfl, rfl, rfl⟩,
    ⟨{ State.reset with out := { gateN := false, secN := true } }, _, rfl, rfl, rfl⟩,
    ⟨{ State.reset with out := { gateN := true, secN := false } }, _, rfl, by decide⟩⟩
/-- A rise while unsynchronized; a rise exactly at the minimum spacing; the half-wave exactly over; neither. -/
theorem witness_MainsPhaseTracks :
    sensedCrossing { State.reset with
      inp := { State.reset.inp with mains := true }, ms := { State.reset.ms with prevPin := false } } ∧
    sensedCrossing { clockAt 150 with
      inp := { State.reset.inp with mains := true }
      ms := { phase := .negativeHalfwave, ref := 0, prevPin := false, transition := false } } ∧
    timedCrossing { clockAt 200 with
      ms := { phase := .positiveHalfwave, ref := 0, prevPin := false, transition := false } } ∧
    ¬ sensedCrossing State.reset ∧ ¬ timedCrossing State.reset := by
  unfold sensedCrossing timedCrossing
  decide
theorem witness_ReferenceAdvancesDebounced : ∃ s t : State, exec .mains s = .next t ∧ t.ms.ref ≠ s.ms.ref :=
  ⟨{ clockAt 200 with
      ms := { phase := .positiveHalfwave, ref := 0, prevPin := false, transition := false } }, _, rfl, by decide⟩
/-- An edge at the stored edge's own instant; one half the range past it; a stale clock; a fresh one. -/
theorem witness_SpeedPhaseDrains : iGe (0 : Word) State.reset.se.lastEdge = true ∧
    iGe (0x8000 : Word) State.reset.se.lastEdge = false ∧
    (clockAt 0x8000).cap.new = false ∧ iGe (nowOf (clockAt 0x8000)) (clockAt 0x8000).se.lastEdge = false ∧
    iGe (nowOf (clockAt 0x7FFF)) (clockAt 0x7FFF).se.lastEdge = true := by decide
theorem witness_ReadingNeedsFourEdges : Config.tvcfg.wf = true ∧
    ∃ s t : State, exec .speed s = .next t ∧ s.se.conf < t.se.conf :=
  ⟨by decide, { State.reset with cap := { new := true, ts := 50 } }, _, rfl, by decide⟩
/-- Shut off; nothing pending; one past the greatest offset; at it, with the greatest lead; one tick more of lead. -/
theorem witness_TriacPhaseSchedules : State.reset.sys.primaryShutoff = true ∧
    ((runningAt 0).sys.primaryShutoff = false ∧ (runningAt 0).ms.transition = false ∧
      (runningAt 0).tr.pending = false) ∧
    (triggerToServe (pendingAt 181 0) ∧ (pendingAt 181 0).cfg.maxOffset.toNat < effOf (pendingAt 181 0)) ∧
    (triggerToServe (pendingAt 180 53) ∧ effOf (pendingAt 180 53) ≤ (pendingAt 180 53).cfg.maxOffset.toNat ∧
      effOf (pendingAt 180 53) - elapsedOf (pendingAt 180 53) ≤ (pendingAt 180 53).cfg.shortArmMax.toNat) ∧
    (triggerToServe (pendingAt 180 52) ∧ effOf (pendingAt 180 52) ≤ (pendingAt 180 52).cfg.maxOffset.toNat ∧
      (pendingAt 180 52).cfg.shortArmMax.toNat < effOf (pendingAt 180 52) - elapsedOf (pendingAt 180 52)) := by
  unfold triggerToServe
  decide
theorem witness_ArmedTriggerFiresOnTime : (pendingAt 100 99).cfg.shortArmMax.toNat ≤ 127 ∧
    triggerToServe (pendingAt 100 99) ∧ effOf (pendingAt 100 99) ≤ (pendingAt 100 99).cfg.maxOffset.toNat ∧
    effOf (pendingAt 100 99) - elapsedOf (pendingAt 100 99) ≤ (pendingAt 100 99).cfg.shortArmMax.toNat ∧
    ∃ t, exec .triac (pendingAt 100 99) = .next t ∧ (∃ u, tickTimes 0 t = .next u) ∧
      ∃ u, tickTimes 1 t = .next u := by
  refine ⟨by decide, ?_, by decide, by decide, _, rfl, ⟨_, rfl⟩, ⟨_, rfl⟩⟩
  unfold triggerToServe
  decide
theorem witness_CancelledStaysQuiet : State.reset.sys.primaryShutoff = true ∧
    (∃ t, exec .triac State.reset = .next t) ∧ timerQuiet State.reset ∧ ∃ t, exec .tick State.reset = .next t := by
  refine ⟨rfl, ⟨_, rfl⟩, ?_, ⟨_, rfl⟩⟩
  unfold timerQuiet
  decide
/-- Both edges of the half-wave; the reference form's zone at its bound, 40, and one below it. -/
theorem witness_PulseCountTapers : Config.tvcfg.pulseCountFn = .reference 40 3 ∧
    edgeDistance Config.tvcfg.halfWaveDur.toNat 160 = 40 ∧ edgeDistance Config.tvcfg.halfWaveDur.toNat 161 = 39 ∧
    Config.tvcfg.pulseCountOk = true ∧ 200 ≤ Config.tvcfg.halfWaveDur.toNat ∧
    min 200 (Config.tvcfg.halfWaveDur.toNat - 200) ≤ min 100 (Config.tvcfg.halfWaveDur.toNat - 100) := by decide
theorem witness_PulseEngineInvariant : pulseEngineOk (toRun 0x0800) ∧ ∃ t, step (toRun 0x0800) = .next t := by
  refine ⟨?_, ⟨_, rfl⟩⟩
  unfold pulseEngineOk
  decide
theorem witness_ControllerStep : (false = false → (some (0 : Q)) ≠ none) ∧
    (true = false → (none : Option Q) ≠ none) := by decide
/-- A control tick in `Running`, exactly at its offset; the limits of the admitted configuration. -/
theorem witness_AntiWindup : ∃ s t : State, s.cfg.wf = true ∧ inControlPath s ∧ controlTickDue s ∧
    exec .dispatch s = .next t := by
  refine ⟨{ runningAt 100 with ms := { State.reset.ms with transition := true } }, _, by decide, ?_, ?_, rfl⟩
  · unfold inControlPath
    decide
  · unfold controlTickDue
    decide
/-- A table of two knots; no result; a code one past the table's end, and one at its end; a reading above, below and
between the thresholds. -/
theorem witness_TemperatureHysteresis : (∃ first last : Knot, State.reset.cfg.temp[0].curve = first :: [last] ∧
      State.reset.cfg.temp[0].curve = [first] ++ [last]) ∧
    State.reset.inp.adc[(3 : Fin 5)] = none ∧
    curveInRange State.reset.cfg.temp[0].curve (codeToQ 901) = false ∧
    curveInRange State.reset.cfg.temp[0].curve (codeToQ 900) = true ∧
    State.reset.cfg.temp[0].hi.toInt < (lpStep 23041 23041 2).toInt ∧
    (lpStep 20479 20479 2).toInt < State.reset.cfg.temp[0].lo.toInt ∧
    (lpStep 23040 23040 2).toInt ≤ State.reset.cfg.temp[0].hi.toInt ∧
    State.reset.cfg.temp[0].lo.toInt ≤ (lpStep 20480 20480 2).toInt :=
  ⟨⟨⟨100, 30720⟩, ⟨900, 0⟩, rfl, rfl⟩, by decide⟩
/-- One tick before the period; at it, with a failure; at it, without; five periods and one tick. -/
theorem witness_SafetyStepResult : State.reset.cfg.wf = true ∧
    iGe (999 : Word) (iAdd 0 State.reset.cfg.safetyPeriod) = false ∧
    iGe (1000 : Word) (iAdd 0 State.reset.cfg.safetyPeriod) = true ∧
    iGt (5000 : Word)
      (iAdd 0 (BitVec.ofNat 16 (State.reset.cfg.cadenceMissFactor * State.reset.cfg.safetyPeriod.toNat))) = false ∧
    iGt (5001 : Word)
      (iAdd 0 (BitVec.ofNat 16 (State.reset.cfg.cadenceMissFactor * State.reset.cfg.safetyPeriod.toNat))) = true ∧
    State.reset.inp.afeFailure = false ∧ State.reset.inp.rtfault = false := by decide
theorem witness_DebounceCounter : heldOffState.sf.count ≤ heldOffState.cfg.dbLimit ∧
    heldOffState.sf.count = heldOffState.cfg.dbLimit ∧ State.reset.sf.count < State.reset.cfg.dbLimit := by decide
/-- A trip that stands through a tick; a failure in a due cycle; a mains lost one tick ago. -/
theorem witness_StickyAndHardFaults :
    ((∃ t, exec .tick heldOffState = .next t) ∧ isReset .tick = false ∧
      heldOffState.cfg.dbLimit ≤ heldOffState.sf.count) ∧
    (inControlPath (runningAt 1000) ∧ safetyCycleDue (mainView (runningAt 1000)) (nowOf (runningAt 1000)) = true) ∧
    cadenceMissed (mainView (runningAt 5001)) (nowOf (runningAt 5001)) = true ∧
    ((runningAt 1001).ms.transition = false ∧
      mainsSyncLost (mainView (runningAt 1001)) (nowOf (runningAt 1001)) = true) ∧
    ∃ t, exec .dispatch (runningAt 1001) = .next t := by
  refine ⟨⟨⟨_, rfl⟩, rfl, by decide⟩, ⟨?_, by decide⟩, by decide, by decide, ⟨_, rfl⟩⟩
  unfold inControlPath
  decide
/-- The first instant of the assert sub-phase, with the least speed reading; the stage `Error`. -/
theorem witness_SelfTestError : ∃ s : State, s.sys.state = .selfTest ∧ s.post.stage = .checkPrimaryPath ∧
    iGe (nowOf s) (iAdd s.post.t0 s.cfg.postSettle) = true ∧ getSpeed (mainView s) = some 1 ∧ (1 : Q).toInt ≠ 0 ∧
    (testingAt .error 0).sys.state = .selfTest ∧ (testingAt .error 0).post.stage = .error ∧
    ∃ t, exec .dispatch (testingAt .error 0) = .next t :=
  ⟨{ testingAt .checkPrimaryPath 300 with se := { State.reset.se with conf := 4, filt := 1 } },
    rfl, rfl, by decide, by decide, by decide, rfl, rfl, ⟨_, rfl⟩⟩
/-- The end of a stage without a reading, and the tick before it, in each stage. -/
theorem witness_SelfTestAdvances_Waits : ∀ stage : PostStage, (testingAt stage 600).sys.state = .selfTest ∧
    (testingAt stage 600).post.stage = stage ∧ getSpeed (mainView (testingAt stage 600)) = none ∧
    iGe (nowOf (testingAt stage 600)) (iAdd (testingAt stage 600).post.t0
      ((testingAt stage 600).cfg.postSettle + (testingAt stage 600).cfg.postAssert)) = true ∧
    getSpeed (mainView (testingAt stage 599)) = none ∧
    iGe (nowOf (testingAt stage 599)) (iAdd (testingAt stage 599).post.t0
      ((testingAt stage 599).cfg.postSettle + (testingAt stage 599).cfg.postAssert)) = false := by
  intro stage
  cases stage <;> decide
theorem witness_DispatchDetector : inControlPath (runningAt 0) := .inr rfl
theorem witness_DispatchStartup : (clockAt 500).sys.state = .startup ∧
    iGe (nowOf (clockAt 500)) (iAdd (clockAt 500).sys.t0 (clockAt 500).cfg.startupDelay) = true ∧
    iGe (nowOf (clockAt 499)) (iAdd (clockAt 499).sys.t0 (clockAt 499).cfg.startupDelay) = false := by decide
/-- A reading and a setpoint above the threshold; the reading lost in `Running`; no setpoint, and one. -/
theorem witness_RunningIsFunctionOfInputs : State.reset.inp.adc[0] = none ∧ (runningAt 0).inp.adc[0] = some 512 ∧
    inControlPath (runningAt 0) ∧ runCondition (runningAt 0) ∧
    ∃ s : State, inControlPath s ∧ s.sys.state = .running ∧ ¬ runCondition s := by
  refine ⟨rfl, rfl, ?_, ?_, { runningAt 0 with se := { State.reset.se with conf := 3 } }, ?_, rfl, ?_⟩
  · unfold inControlPath
    decide
  · unfold runCondition
    decide
  · unfold inControlPath
    decide
  · unfold runCondition
    decide
/-- Exactly at the control offset, and one tick before; the votes' statement has the first hypothesis alone. -/
theorem witness_ControlTick_ShutoffIsOrOfVotes : ∃ s u : State, inControlPath s ∧ controlTickDue s ∧ inControlPath u ∧
    ¬ controlTickDue u := by
  refine ⟨{ runningAt 100 with ms := { State.reset.ms with transition := true } },
    { runningAt 99 with ms := { State.reset.ms with transition := true } }, ?_, ?_, ?_, ?_⟩
  · unfold inControlPath
    decide
  · unfold controlTickDue
    decide
  · unfold inControlPath
    decide
  · unfold controlTickDue
    decide
theorem witness_SystemStateEdges : ∃ t, exec .dispatch (clockAt 500) = .next t ∧
    t.sys.state ≠ (clockAt 500).sys.state := ⟨_, rfl, by decide⟩
theorem witness_NoEarlyFireInvariant : (noEarlyFire (toRun 0x7800) ∧ handedOver (toRun 0x7800)) ∧
    beforePathChecks (toRun 0x7800) ∧ ∃ t, step (toRun 0x7800) = .next t :=
  ⟨⟨fun _ => ⟨⟨rfl, rfl⟩, rfl, ⟨rfl, rfl, rfl⟩, rfl⟩, fun h => by cases h⟩, .inl rfl, ⟨_, rfl⟩⟩
theorem witness_StickyFaultHoldsOff : heldOff heldOffState ∧ (∃ t, exec .dispatch heldOffState = .next t) ∧
    isReset .dispatch = false :=
  ⟨⟨.inl ⟨by decide, .inr rfl⟩, ⟨rfl, rfl⟩, rfl, ⟨rfl, rfl, rfl⟩, rfl⟩, ⟨_, rfl⟩, rfl⟩
theorem witness_StickyFaultShutsOff : latchedFault heldOffState ∧ latchedFault (testingAt .error 0) :=
  ⟨.inl ⟨by decide, .inr rfl⟩, .inr ⟨rfl, rfl⟩⟩
theorem witness_CountersInvariant : countersInRange (toRun 0x0800) ∧ ∃ t, step (toRun 0x0800) = .next t := by
  refine ⟨?_, ⟨_, rfl⟩⟩
  unfold countersInRange
  decide
theorem witness_UnreadCellsDoNotMatter : ∃ s s' : State, s ≠ s' ∧ eraseUnread s = eraseUnread s' :=
  ⟨State.reset, { State.reset with
    inp := { State.reset.inp with adc := #v[none, some 1023, some 0, none, none] }
    ml := { State.reset.ml with diagLoopRuntime := 1 } }, by decide, by decide⟩
theorem witness_ModularOrderIsTrueOrder : (32767 < 0 + 32768 ∧ 0 < 32767 + 32768) ∧
    (127 < 0 + 128 ∧ 0 < 127 + 128) := by decide
theorem witness_SaturatingArithmetic : (-32768 : Q).toInt < 0 ∧ (1 : Q).toInt ≠ 0 ∧ (0 : Q).toInt = 0 ∧
    0 < (1 : Q).toInt := by decide
/-- At the first knot, at the last, at a middle segment's start and one before its end. -/
theorem witness_CurveInterpolates : ∃ k l : Knot, Curve.valid [k, l] = true ∧ (0 : Q).toInt ≤ k.x.toInt ∧
    l.x.toInt ≤ (5120 : Q).toInt ∧ [k, l] = [] ++ k :: l :: [] ∧ [k, l] = [k] ++ [l] ∧ k.x.toInt ≤ (0 : Q).toInt ∧
    (5119 : Q).toInt < l.x.toInt := ⟨⟨0, 190⟩, ⟨5120, 10⟩, by decide⟩
theorem witness_FilterAndSpeedConversion : 1 ≤ 1 ∧ |(103 : Q).toInt - (100 : Q).toInt| < ((4 : Nat) : Int) ∧
    Config.tvcfg.speedFn = .reciprocal 256000 ∧ (0 : Word).toNat = 0 ∧ (1 : Word).toNat ≠ 0 := by decide

end Sys2Proof.Tests
end

section
/-! SUPPORT. How `step` runs a trace (O5, O6), and what an operation does to the speed estimator (O30). -/

namespace Sys2Proof.Proofs.Scope

open Sys2Proof.Machine Sys2Proof.Safety Sys2Proof.Laws

/-! ## The step -/

/-- An admitted configuration changes no outcome (R9). -/
theorem whenAdmitted_of_wf {c : Cfg} (h : c.wf = true) (o : Host.Outcome State Fault Refusal) :
    whenAdmitted c o = o := if_pos h

/-- A configuration that R9 does not admit is refused, whatever the outcome would be (entry 5). -/
theorem whenAdmitted_of_not_wf {c : Cfg} (h : c.wf = false) (o : Host.Outcome State Fault Refusal) :
    whenAdmitted c o = .refused .invalidConfig := by simp [whenAdmitted, h]

/-- A legal word is run as the operation it stands for (R85). -/
theorem runWord_of_decode {w : Word} {i : Instr} (h : decodeEvent w = some i) (s : State) :
    runWord w s = exec i s := by simp [runWord, h]

/-- The step at the end of a trace (entry 1). -/
theorem step_of_trace_nil {s : State} (h : s.trace = []) :
    step s = whenAdmitted s.cfg (.refused .traceEnded) := by simp [step, h, nextEvent]

/-- The step at a word takes that word (R81). -/
theorem step_of_trace_cons {s : State} {w : Word} {rest : List Word} (h : s.trace = w :: rest) :
    step s = whenAdmitted s.cfg (runWord w { s with trace := rest }) := by simp [step, h, nextEvent]

/-- Every step asks for an admitted configuration first (R9, entry 5). -/
theorem step_of_not_wf {s : State} (h : s.cfg.wf = false) : step s = .refused .invalidConfig := by
  cases htrace : s.trace with
  | nil => rw [step_of_trace_nil htrace, whenAdmitted_of_not_wf h]
  | cons w rest => rw [step_of_trace_cons htrace, whenAdmitted_of_not_wf h]

/-- Settles O5: under an admitted configuration and at a legal word neither guard of the step refuses. -/
theorem stepRunsDecodedEvent : Obligations.StepRunsDecodedEvent := by
  intro s w rest i hwf htrace hdecode
  calc step s = whenAdmitted s.cfg (runWord w { s with trace := rest }) := step_of_trace_cons htrace
    _ = runWord w { s with trace := rest } := whenAdmitted_of_wf hwf _
    _ = exec i { s with trace := rest } := runWord_of_decode hdecode _

/-- Settles O6: the configuration is asked for before the trace is. -/
theorem stepWithoutOperation : Obligations.StepWithoutOperation :=
  ⟨fun _ => step_of_not_wf,
   fun _ hwf htrace => (step_of_trace_nil htrace).trans (whenAdmitted_of_wf hwf _)⟩

/-! ## The phases -/

/-- `MAIN_STEP` performs the phase `ml_pc` selects (R281). -/
theorem performPhase_spec (s : State) : after performPhase s = after (phaseProgram s.ml.pc) s := rfl

/-- What a `MAIN_STEP` that answers next did (R281). -/
theorem mainStep_next {s t : State} (h : exec .mainStep s = .next t) :
    s.wd.halted = false ∧ t = after advancePhase (after (phaseProgram s.ml.pc) s) := by
  rw [exec_mainStep, whenEnabled_next_iff, performPhase_spec] at h
  obtain ⟨running, rfl⟩ := h
  exact ⟨by simpa using running, rfl⟩

@[simp] theorem phaseLooptime_se (s : State) : (after phaseLooptime s).se = s.se := (rfl)
@[simp] theorem phaseMains_se (s : State) : (after phaseMains s).se = s.se := (rfl)
@[simp] theorem phaseOutput_se (s : State) : (after phaseOutput s).se = s.se := (rfl)
@[simp] theorem phaseWdt_se (s : State) : (after phaseWdt s).se = s.se := (rfl)

/-- The estimator after a phase `SPEED` (R168). -/
theorem phaseSpeed_se (s : State) :
    (after phaseSpeed s).se =
      if s.cap.new then drainEdge s.cfg s.se s.cap.ts else checkStale s.se (clockInstant (foldClock s.clk)) := rfl

/-- No phase but `SPEED` writes the estimator (R158, R168, R186, R282 to R291). -/
theorem phaseProgram_se {pc : Fin 7} (notSpeed : pc ≠ 2) (s : State) :
    (after (phaseProgram pc) s).se = s.se := by
  match pc with
  | 0 => exact phaseLooptime_se s
  | 1 => exact phaseMains_se s
  | 2 => exact absurd rfl notSpeed
  | 3 => exact phaseDispatch_se s
  | 4 => exact phaseTriac_se s
  | 5 => exact phaseOutput_se s
  | 6 => exact phaseWdt_se s

/-! ## The speed estimator -/

/-- All an operation can do to the estimator: a `SPEED` phase, a reset, or nothing (R20, R168, R371). -/
theorem exec_se_cases {i : Instr} {s t : State} (h : exec i s = .next t) :
    (performs 2 i s ∧ t.se = (after phaseSpeed s).se) ∨ (isReset i = true ∧ t.se = (resetCells s).se) ∨
      t.se = s.se := by
  cases i with
  | mainStep =>
    obtain ⟨-, rfl⟩ := mainStep_next h
    by_cases hpc : s.ml.pc = 2
    · exact .inl ⟨.inl ⟨rfl, hpc⟩, by rw [advancePhase_se, hpc]; rfl⟩
    · exact .inr (.inr (by rw [advancePhase_se, phaseProgram_se hpc]))
  | speed =>
    cases h
    exact .inl ⟨.inr rfl, rfl⟩
  | por =>
    cases h
    exact .inr (.inl ⟨rfl, rfl⟩)
  | wdtReset =>
    obtain ⟨-, rfl⟩ := whenEnabled_next_iff.mp h
    exact .inr (.inl ⟨rfl, rfl⟩)
  | tick | irqMains | irqUart =>
    obtain ⟨-, rfl⟩ := whenEnabled_next_iff.mp h
    exact .inr (.inr rfl)
  | irqTacho =>
    obtain ⟨-, rfl⟩ := whenEnabled_next_iff.mp h
    exact .inr (.inr (tachoHandler_se _ s))
  | irqPulse =>
    obtain ⟨-, rfl⟩ := whenEnabled_next_iff.mp h
    exact .inr (.inr (pulseHandler_se _ s))
  | dispatch =>
    cases h
    exact .inr (.inr (phaseDispatch_se s))
  | triac =>
    cases h
    exact .inr (.inr (phaseTriac_se s))
  | envMains | envTacho | envAdcSetpoint | envAdcShunt0 | envAdcShunt1 | envAdcMottemp | envAdcDietemp
  | envAfeFail | envRtfault | halt | looptime | mains | output | wdt =>
    cases h
    exact .inr (.inr rfl)

/-- The filter leaves confidence as it is (R172, R173). -/
@[simp] theorem filterSpeed_conf (c : Cfg) (e : SpeedEstimator) : (filterSpeed c e).conf = e.conf := by
  unfold filterSpeed
  split <;> rfl

/-- An accepted edge raises confidence by one, up to `CONF_MAX` (R171). -/
@[simp] theorem acceptEdge_conf (c : Cfg) (e : SpeedEstimator) (ts : Instant16) :
    (acceptEdge c e ts).conf = min (e.conf + 1) c.confMax := filterSpeed_conf c _

/-- A drained edge raises confidence where it is accepted, and leaves it otherwise (R169, R171, R174). -/
theorem drainEdge_conf (c : Cfg) (e : SpeedEstimator) (ts : Instant16) :
    (drainEdge c e ts).conf = if iGe ts e.lastEdge then min (e.conf + 1) c.confMax else e.conf := by
  unfold drainEdge
  split
  · exact acceptEdge_conf c e ts
  · rfl

/-- A phase without an edge raises no confidence (R175). -/
theorem checkStale_conf_le (e : SpeedEstimator) (now : Instant16) : (checkStale e now).conf ≤ e.conf := by
  unfold checkStale
  split
  · exact Nat.le_refl _
  · exact Nat.zero_le _

/-- Confidence after a `SPEED` phase: one more at most, and more only for an accepted edge (R168, R171). -/
theorem phaseSpeed_conf (s : State) :
    (after phaseSpeed s).se.conf ≤ s.se.conf + 1 ∧
      (s.se.conf < (after phaseSpeed s).se.conf → s.cap.new = true ∧ iGe s.cap.ts s.se.lastEdge = true) := by
  rw [phaseSpeed_se]
  by_cases hnew : s.cap.new = true
  · rw [if_pos hnew, drainEdge_conf]
    split
    · next accepted => exact ⟨Nat.min_le_left _ _, fun _ => ⟨hnew, accepted⟩⟩
    · exact ⟨Nat.le_succ _, fun rise => absurd rise (Nat.lt_irrefl _)⟩
  · rw [if_neg hnew]
    have lost := checkStale_conf_le s.se (clockInstant (foldClock s.clk))
    exact ⟨Nat.le_succ_of_le lost, fun rise => absurd rise (Nat.not_lt_of_le lost)⟩

/-- A reset clears confidence (R20, R371). -/
@[simp] theorem resetCells_conf (s : State) : (resetCells s).se.conf = 0 := (rfl)

/-- Every operation raises confidence by one at most, and raises it only in a `SPEED` phase that accepts an edge. -/
theorem exec_conf {i : Instr} {s t : State} (h : exec i s = .next t) :
    t.se.conf ≤ s.se.conf + 1 ∧
      (s.se.conf < t.se.conf → performs 2 i s ∧ s.cap.new = true ∧ iGe s.cap.ts s.se.lastEdge = true) := by
  rcases exec_se_cases h with ⟨speed, hse⟩ | ⟨-, hse⟩ | hse
  · obtain ⟨bound, rises⟩ := phaseSpeed_conf s
    rw [hse]
    exact ⟨bound, fun rise => ⟨speed, rises rise⟩⟩
  · rw [hse, resetCells_conf]
    exact ⟨Nat.zero_le _, fun rise => absurd rise (Nat.not_lt_zero _)⟩
  · rw [hse]
    exact ⟨Nat.le_succ _, fun rise => absurd rise (Nat.lt_irrefl _)⟩

/-- An admitted configuration keeps the source values (R8). -/
theorem sourceValuesOk_of_wf {c : Cfg} (h : c.wf = true) : c.sourceValuesOk = true :=
  (Bool.and_eq_true_iff.mp h).2

/-- The threshold has a source value, 4, and an admitted configuration keeps it (R8, R176). -/
theorem confThreshold_of_wf {c : Cfg} (h : c.wf = true) : c.confThreshold = 4 := by
  have values := sourceValuesOk_of_wf h
  simp only [Cfg.sourceValuesOk, Bool.and_eq_true, decide_eq_true_eq] at values
  tauto

/-- Settles O30, from the three things an operation can do to the estimator (`exec_se_cases`). -/
theorem readingNeedsFourEdges : Obligations.ReadingNeedsFourEdges :=
  ⟨fun _ => rfl, fun _ => confThreshold_of_wf, rfl, rfl, fun _ _ _ => exec_conf⟩

end Sys2Proof.Proofs.Scope
end

section
/-! SUPPORT. What an operation can do, and what it leaves alone: the configuration and the trace (O8), the counters'
bounds (O54), the cells of other contexts and the pins (O26), the cells no rule reads (O56), a reset (O15). -/

namespace Sys2Proof.Proofs.Cells

open Sys2Proof.Machine Sys2Proof.Safety Sys2Proof.Laws Sys2Proof.Proofs.Scope

/-! ## What programs keep -/

/-- What every access of the allowed contexts keeps, every program of such a context keeps; a MAIN program may enter a
group (R63). -/
theorem after_keeps {β : Type} (view : State → β) (allowed : Context → Prop)
    (enter : allowed .main → allowed .group)
    (access : ∀ {c : Context} {α : Type} (a : Access c α), allowed c → ∀ s, view (performAccess a s).2 = view s)
    {c : Context} {α : Type} (p : Program c α) (hc : allowed c) (s : State) : view (after p s) = view s := by
  induction p generalizing s with
  | pure a => rfl
  | access a => exact access a hc s
  | bind p k ihp ihk => exact (ihk _ hc (after p s)).trans (ihp hc s)
  | atomically g ih => exact ih .group (enter hc) s

/-- No program changes the configuration or the trace (R20, R372; entry 1). -/
theorem after_cfg_trace {c : Context} (p : Program c Unit) (s : State) :
    (after p s).cfg = s.cfg ∧ (after p s).trace = s.trace := by
  have kept := after_keeps (fun u => (u.cfg, u.trace)) (fun _ => True) id
    (fun a _ _ => by cases a <;> rfl) p trivial s
  exact Prod.mk.inj kept

/-- A program of MAIN changes no input, no tachometer request, no halt and no hardware counter (R20). -/
theorem after_main_frame (p : Program .main Unit) (s : State) :
    (after p s).inp = s.inp ∧ (after p s).irq.tacho = s.irq.tacho ∧ (after p s).wd.halted = s.wd.halted ∧
      (after p s).clk.tcnt = s.clk.tcnt := by
  have kept := after_keeps (fun u => (u.inp, u.irq.tacho, u.wd.halted, u.clk.tcnt))
    (fun c => c = .main ∨ c = .group) (fun _ => .inr rfl)
    (fun a hc _ => by rcases hc with rfl | rfl <;> cases a <;> rfl) p (.inl rfl) s
  simpa only [Prod.mk.injEq] using kept

/-- A program of IRQ changes no input, no watchdog cell and no hardware counter (R20). -/
theorem after_irq_frame (p : Program .irq Unit) (s : State) :
    (after p s).inp = s.inp ∧ (after p s).wd = s.wd ∧ (after p s).clk.tcnt = s.clk.tcnt := by
  have kept := after_keeps (fun u => (u.inp, u.wd, u.clk.tcnt)) (· = .irq) (fun hc => nomatch hc)
    (fun a hc _ => by subst hc; cases a <;> rfl) p rfl s
  simpa only [Prod.mk.injEq] using kept

/-- A program of TIMEBASE changes no input, no tachometer request, no halt, and of the `SHARED` cells only the
overflow flag and the pulse-timer request: it has no token to write the others with (R20, R63, R310). -/
theorem after_timebase_frame (p : Program .timebase Unit) (s : State) :
    (after p s).inp = s.inp ∧ (after p s).irq.tacho = s.irq.tacho ∧ (after p s).wd.halted = s.wd.halted ∧
      (after p s).clk.hi = s.clk.hi ∧ (after p s).out = s.out ∧ (after p s).cap = s.cap ∧
      (after p s).pt = s.pt := by
  have kept := after_keeps (fun u => (u.inp, u.irq.tacho, u.wd.halted, u.clk.hi, u.out, u.cap, u.pt))
    (· = .timebase) (fun hc => nomatch hc)
    (fun a hc _ => by
      subst hc
      cases a with
      | writeShared tok => cases tok
      | _ => rfl) p rfl s
  simpa only [Prod.mk.injEq] using kept

/-- The contexts without access to a `MAIN` cell (R63, R66; entry 9). -/
def noMainAccess (c : Context) : Prop := c = .irq ∨ c = .group ∨ c = .timebase

/-- An access of such a context answers the same whatever the `MAIN` cells are, and leaves them. -/
theorem performAccess_putMain {c : Context} {α : Type} (a : Access c α) (hc : noMainAccess c) (v : MainCells)
    (s : State) : performAccess a (putMain v s) = ((performAccess a s).1, putMain v (performAccess a s).2) := by
  rcases hc with rfl | rfl | rfl <;> cases a <;> rfl

/-- So does a program of such a context. -/
theorem runProgram_putMain {c : Context} {α : Type} (p : Program c α) (hc : noMainAccess c) (v : MainCells)
    (s : State) : runProgram p (putMain v s) = ((runProgram p s).1, putMain v (runProgram p s).2) := by
  induction p generalizing s with
  | pure a => rfl
  | access a => exact performAccess_putMain a hc v s
  | bind p k ihp ihk => simp only [runProgram_bind, ihp hc, ihk _ hc]
  | atomically g => rcases hc with hc | hc | hc <;> cases hc

/-- The clause of O26, over the state alone (entry 9). -/
theorem after_putMain {c : Context} (p : Program c Unit) (hc : noMainAccess c) (v : MainCells) (s : State) :
    after p (putMain v s) = putMain v (after p s) := congrArg Prod.snd (runProgram_putMain p hc v s)

/-- A program that never reads or writes a `MAIN` cell keeps them all. -/
theorem after_mainCells {c : Context} (p : Program c Unit) (hc : noMainAccess c) (s : State) :
    mainCells (after p s) = mainCells s := by
  calc mainCells (after p s) = mainCells (after p (putMain (mainCells s) s)) := by rw [putMain_mainCells]
    _ = mainCells (putMain (mainCells s) (after p s)) := by rw [after_putMain p hc]
    _ = mainCells s := rfl

/-! ## What an operation does -/

/-- An operation that answers next performs one body of its agent's context (R62, R63). -/
theorem exec_body (i : Instr) : ∃ body : Body i, ∀ s t : State, exec i s = .next t → t = perform i body s := by
  obtain ⟨enabled, body, meaning⟩ := exec_isStepOf i
  refine ⟨body, fun s t h => ?_⟩
  rw [meaning, whenEnabled_next_iff] at h
  exact h.2.symm

/-- The same, with the context named. -/
theorem exec_eq_after {i : Instr} {s t : State} {c : Context} (hc : contextOf i.agent = c)
    (h : exec i s = .next t) : ∃ p : Program c Unit, t = after p s := by
  subst hc
  obtain ⟨body, performed⟩ := exec_body i
  exact ⟨body, performed s t h⟩

/-- The state with another phase index (R281). -/
def withPc (pc : Fin 7) (s : State) : State := { s with ml := { s.ml with pc := pc } }

/-- All an operation that answers next can do; `exec_effect` reads it off `exec`. -/
inductive Effect (i : Instr) (s t : State) : Prop
  /-- A main-loop phase; `MAIN_STEP` then moves the phase index (R281). -/
  | phase (pc next : Fin 7) (performed : performs pc i s) (result : t = withPc next (after (phaseProgram pc) s))
  /-- `TICK` before the watchdog has expired (R310). -/
  | tick (op : i = .tick) (enabled : s.wd.count < s.cfg.wdtTimeout) (result : t = after tickBody s)
  /-- The tachometer handler (R166). -/
  | tacho (op : i = .irqTacho) (result : t = after (tachoHandler .irq) s)
  /-- The pulse handler (R197). -/
  | pulse (op : i = .irqPulse) (result : t = after (pulseHandler .irq) s)
  /-- A handler without effect (R337, R338). -/
  | idle (agent : i.agent = .irq) (result : t = s)
  /-- An input, a tachometer request or a halt set by ENV (R311 to R315, R341). -/
  | input (agent : i.agent = .env) (inp : Inputs) (request halted : Bool)
      (result : t = { s with inp := inp, irq := { s.irq with tacho := request },
                             wd := { s.wd with halted := halted } })
  /-- A reset (R371). -/
  | reset (op : isReset i = true) (result : t = resetCells s)

theorem withPc_self (s : State) : withPc s.ml.pc s = s := rfl

/-- A phase alone leaves the phase index (R82; entry 10). -/
theorem Effect.ofPhase {i : Instr} {s : State} (pc : Fin 7) (performed : performs pc i s) :
    Effect i s (after (phaseProgram pc) s) := .phase pc _ performed (withPc_self _).symm

/-- The arms of `exec`, read once: every operation has one of the effects (R84). -/
theorem exec_effect {i : Instr} {s t : State} (h : exec i s = .next t) : Effect i s t := by
  cases i with
  | mainStep =>
    obtain ⟨-, rfl⟩ := mainStep_next h
    exact .phase s.ml.pc _ (.inl ⟨rfl, rfl⟩) rfl
  | looptime =>
    cases h
    exact .ofPhase 0 (.inr rfl)
  | mains =>
    cases h
    exact .ofPhase 1 (.inr rfl)
  | speed =>
    cases h
    exact .ofPhase 2 (.inr rfl)
  | dispatch =>
    cases h
    exact .ofPhase 3 (.inr rfl)
  | triac =>
    cases h
    exact .ofPhase 4 (.inr rfl)
  | output =>
    cases h
    exact .ofPhase 5 (.inr rfl)
  | wdt =>
    cases h
    exact .ofPhase 6 (.inr rfl)
  | tick =>
    obtain ⟨enabled, rfl⟩ := whenEnabled_next_iff.mp h
    exact .tick rfl (of_decide_eq_true enabled) rfl
  | irqTacho =>
    obtain ⟨-, rfl⟩ := whenEnabled_next_iff.mp h
    exact .tacho rfl rfl
  | irqPulse =>
    obtain ⟨-, rfl⟩ := whenEnabled_next_iff.mp h
    exact .pulse rfl rfl
  | irqMains | irqUart =>
    obtain ⟨-, rfl⟩ := whenEnabled_next_iff.mp h
    exact .idle rfl rfl
  | wdtReset =>
    obtain ⟨-, rfl⟩ := whenEnabled_next_iff.mp h
    exact .reset rfl rfl
  | por =>
    cases h
    exact .reset rfl rfl
  | envMains | envTacho | envAdcSetpoint | envAdcShunt0 | envAdcShunt1 | envAdcMottemp | envAdcDietemp
  | envAfeFail | envRtfault | halt =>
    cases h
    exact .input rfl _ _ _ rfl

/-- Every operation keeps the configuration and the trace (R20, R38, R372). -/
theorem exec_cfg_trace {i : Instr} {s t : State} (h : exec i s = .next t) : t.cfg = s.cfg ∧ t.trace = s.trace := by
  obtain ⟨p, rfl⟩ := exec_eq_after rfl h
  exact after_cfg_trace p s

/-- Settles O8: no program writes the configuration or the trace, and the step takes one word before the operation. -/
theorem configKeptTraceConsumed : Obligations.ConfigKeptTraceConsumed := by
  refine ⟨fun _ _ _ => exec_cfg_trace, fun s t h => ?_⟩
  obtain ⟨-, w, rest, i, htrace, -, hexec⟩ := step_next_iff.mp h
  obtain ⟨hcfg, hrest⟩ := exec_cfg_trace hexec
  exact ⟨hcfg, by rw [hrest, htrace, List.tail_cons]⟩

/-- Settles O15: both resets answer `resetCells`, whose cells are the ones written out. -/
theorem resetsWriteEveryCell : Obligations.ResetsWriteEveryCell := by
  intro s
  refine ⟨resetCells s, ?_, exec_por s, fun expired => ?_, fun running => ?_⟩
  · rfl
  · have enabled : watchdogExpired s = true := decide_eq_true expired
    exact whenEnabled_next_iff.mpr ⟨enabled, rfl⟩
  · have disabled : watchdogExpired s = false := decide_eq_false (Nat.not_le_of_lt running)
    rw [exec_wdtReset, disabled, whenEnabled_false]

/-! ## The counters -/

/-- A phase raises the watchdog count in no case: `WDT` clears it, the others leave it (R291). -/
theorem phaseProgram_wd_count_le (pc : Fin 7) (s : State) : (after (phaseProgram pc) s).wd.count ≤ s.wd.count := by
  match pc with
  | 0 | 1 | 2 | 5 => exact Nat.le_refl _
  | 3 => exact Nat.le_of_eq (congrArg Watchdog.count (phaseDispatch_wd s))
  | 4 => exact Nat.le_of_eq (congrArg Watchdog.count (phaseTriac_wd s))
  | 6 => exact Nat.zero_le _

/-- Only a `TICK` raises the watchdog count, and only below the timeout (R310). -/
theorem exec_wd_count_le {i : Instr} {s t : State} (h : exec i s = .next t) (bound : s.wd.count ≤ s.cfg.wdtTimeout) :
    t.wd.count ≤ s.cfg.wdtTimeout := by
  cases exec_effect h with
  | phase pc _ _ result =>
    subst result
    exact (phaseProgram_wd_count_le pc s).trans bound
  | tick _ enabled result =>
    subst result
    exact enabled
  | tacho _ result => rwa [result, tachoHandler_wd]
  | pulse _ result => rwa [result, pulseHandler_wd]
  | idle _ result => rwa [result]
  | input _ _ _ _ result => rwa [result]
  | reset _ result =>
    subst result
    exact Nat.zero_le _

/-- A `SPEED` phase keeps confidence within `CONF_MAX` (R171, R175). -/
theorem phaseSpeed_conf_le {s : State} (bound : s.se.conf ≤ s.cfg.confMax) :
    (after phaseSpeed s).se.conf ≤ s.cfg.confMax := by
  rw [phaseSpeed_se]
  split
  · rw [drainEdge_conf]
    split
    · exact Nat.min_le_right _ _
    · exact bound
  · exact (checkStale_conf_le s.se _).trans bound

/-- Confidence stays within `CONF_MAX`: only `SPEED` and a reset write it (R168, R171). -/
theorem exec_conf_le {i : Instr} {s t : State} (h : exec i s = .next t) (bound : s.se.conf ≤ s.cfg.confMax) :
    t.se.conf ≤ s.cfg.confMax := by
  rcases exec_se_cases h with ⟨-, hse⟩ | ⟨-, hse⟩ | hse <;> rw [hse]
  · exact phaseSpeed_conf_le bound
  · exact Nat.zero_le _
  · exact bound

/-- The debounce counter of a view is within its limit (R129). -/
def DebounceInRange (v : MainView) : Prop := v.sf.count ≤ v.cfg.dbLimit

/-! Each procedure of `DISPATCH` keeps the counter there; only the debounce step and the trip write it (R129, R130). -/

theorem dbTrip_inRange (v : MainView) : DebounceInRange (dbTrip v) := Nat.le_refl v.cfg.dbLimit

theorem dbStep_inRange {v : MainView} (h : DebounceInRange v) (fault sticky : Bool) :
    DebounceInRange (dbStep fault sticky v) := dbNext_le h fault sticky

theorem zeroCrossingCheck_inRange {v : MainView} (h : DebounceInRange v) (now : Instant16) (zc : Bool) :
    DebounceInRange (zeroCrossingCheck now zc v) := by
  unfold zeroCrossingCheck
  dsimp only
  split
  · exact dbTrip_inRange _
  · exact h

theorem safetyCycle_inRange {v : MainView} (h : DebounceInRange v) (now : Instant16) (sp speed : Q) :
    DebounceInRange (safetyCycle now sp speed v) := by
  have pushed : DebounceInRange (pushSetpoint sp (setLastCheck now v)) := h
  unfold safetyCycle
  dsimp only
  split
  · exact dbTrip_inRange _
  · exact dbStep_inRange (dbStep_inRange pushed _ _) _ _

theorem safetyStep_inRange {v : MainView} (h : DebounceInRange v) (now : Instant16) (sp speed : Q) (zc : Bool) :
    DebounceInRange (safetyStep now sp speed zc v) := by
  have checked := zeroCrossingCheck_inRange h now zc
  unfold safetyStep
  dsimp only
  split
  · exact safetyCycle_inRange checked now sp speed
  · exact checked

theorem switchLoop_inRange {v : MainView} (h : DebounceInRange v) (sp : Q) (speed : Option Q) :
    DebounceInRange (switchLoop sp speed v) := by
  rw [switchLoop_frame]
  exact h

theorem housekeeping_inRange {v : MainView} (h : DebounceInRange v) (sp : Q) (speed : Option Q) :
    DebounceInRange (housekeeping sp speed v) := by
  rw [housekeeping_frame]
  exact h

theorem controlPath_inRange {v : MainView} (h : DebounceInRange v) (now : Instant16) (due : Bool) :
    DebounceInRange (controlPath now due v) := by
  have switched := switchLoop_inRange h (setpoint v) (getSpeed v)
  cases due with
  | false => exact safetyStep_inRange switched now _ _ _
  | true =>
    have ticked := housekeeping_inRange switched (setpoint v) (getSpeed v)
    exact safetyStep_inRange ticked now _ _ _

theorem postStep_inRange {v : MainView} (h : DebounceInRange v) (now : Instant16) :
    DebounceInRange (postStep now v) := by
  unfold postStep stageOutputs
  split <;> exact h

theorem startupStep_inRange {v : MainView} (h : DebounceInRange v) (now : Instant16) :
    DebounceInRange (startupStep now v) := by
  unfold startupStep
  split <;> exact h

theorem dispatchAt_inRange {v : MainView} (h : DebounceInRange v) (now : Instant16) :
    DebounceInRange (dispatchAt now v) := by
  have armed : DebounceInRange (setArmed (hkArmedNow v && !hkDue now v) v) := h
  unfold dispatchAt dispatchState
  split
  · exact startupStep_inRange armed now
  · exact postStep_inRange armed now
  · exact controlPath_inRange armed now _
  · exact controlPath_inRange armed now _

/-- A `DISPATCH` phase keeps the debounce counter within its limit (R129, R253). -/
theorem phaseDispatch_sf_count_le {s : State} (bound : s.sf.count ≤ s.cfg.dbLimit) :
    (after phaseDispatch s).sf.count ≤ s.cfg.dbLimit := by
  have start : DebounceInRange (mainView s) := bound
  have kept := dispatchAt_inRange start (clockInstant (foldClock s.clk))
  rw [DebounceInRange, dispatchAt_frame] at kept
  exact kept

/-- No phase but `DISPATCH` writes the safety monitor (R20, R253). -/
theorem phaseProgram_sf {pc : Fin 7} (notDispatch : pc ≠ 3) (s : State) : (after (phaseProgram pc) s).sf = s.sf := by
  match pc with
  | 0 | 1 | 2 | 5 | 6 => rfl
  | 3 => exact absurd rfl notDispatch
  | 4 => exact phaseTriac_sf s

/-- The debounce counter stays within its limit: only `DISPATCH` and a reset write it (R129). -/
theorem exec_sf_count_le {i : Instr} {s t : State} (h : exec i s = .next t) (bound : s.sf.count ≤ s.cfg.dbLimit) :
    t.sf.count ≤ s.cfg.dbLimit := by
  cases exec_effect h with
  | phase pc _ _ result =>
    subst result
    by_cases hpc : pc = 3
    · subst hpc
      exact phaseDispatch_sf_count_le bound
    · exact (congrArg SafetyMonitor.count (phaseProgram_sf hpc s)).trans_le bound
  | tick _ _ result => rwa [result, tickBody_spec]
  | tacho _ result => rwa [result, tachoHandler_sf]
  | pulse _ result => rwa [result, pulseHandler_sf]
  | idle _ result => rwa [result]
  | input _ _ _ _ result => rwa [result]
  | reset _ result =>
    subst result
    exact Nat.zero_le _

/-- Every operation keeps all three bounds (R20, R131). -/
theorem exec_countersInRange {i : Instr} {s t : State} (h : exec i s = .next t) (inRange : countersInRange s) :
    countersInRange t := by
  obtain ⟨hwd, hconf, hsf⟩ := inRange
  obtain ⟨hcfg, -⟩ := exec_cfg_trace h
  unfold countersInRange
  rw [hcfg]
  exact ⟨exec_wd_count_le h hwd, exec_conf_le h hconf, exec_sf_count_le h hsf⟩

/-- Settles O54: every operation keeps the bounds (`exec_countersInRange`), and taking a word touches no counter. -/
theorem countersInvariant : Obligations.CountersInvariant := by
  intro s t inRange h
  obtain ⟨-, w, rest, i, -, -, hexec⟩ := step_next_iff.mp h
  exact exec_countersInRange hexec inRange

/-! ## The contexts and the pins -/

/-- Only IRQ and MAIN's group have the token (R63, R345). -/
theorem csToken_context {c : Context} (tok : CsToken c) : c = .irq ∨ c = .group := by
  cases tok with
  | irq => exact .inl rfl
  | group => exact .inr rfl

/-- A phase is performed by MAIN (R6). -/
theorem performs_agent {pc : Fin 7} {i : Instr} {s : State} (h : performs pc i s) : i.agent = .main := by
  rcases h with ⟨rfl, -⟩ | rfl
  · rfl
  · revert pc
    decide

/-- What a step of ENV other than a reset does (R311 to R315, R341). -/
theorem exec_env_next {i : Instr} {s t : State} (h : exec i s = .next t) (noReset : isReset i = false)
    (agent : i.agent = .env) :
    ∃ (inp : Inputs) (request halted : Bool),
      t = { s with inp := inp, irq := { s.irq with tacho := request }, wd := { s.wd with halted := halted } } := by
  cases exec_effect h with
  | phase _ _ performed => cases (performs_agent performed).symm.trans agent
  | tick op | tacho op | pulse op =>
    subst op
    cases agent
  | idle irq => cases irq.symm.trans agent
  | input _ inp request halted result => exact ⟨inp, request, halted, result⟩
  | reset op => cases noReset.symm.trans op

/-- The watchdog's only operation is a reset (R343). -/
theorem isReset_of_watchdog {i : Instr} (agent : i.agent = .watchdog) : isReset i = true := by
  cases i with
  | wdtReset => rfl
  | _ => cases agent

/-- No agent but MAIN changes a `MAIN` cell, a reset excepted: IRQ and TIMEBASE have no access to one (R20, R63). -/
theorem exec_mainCells {i : Instr} {s t : State} (h : exec i s = .next t) (noReset : isReset i = false)
    (agent : i.agent ≠ .main) : mainCells t = mainCells s := by
  cases hagent : i.agent with
  | main => exact absurd hagent agent
  | watchdog => cases noReset.symm.trans (isReset_of_watchdog hagent)
  | env =>
    obtain ⟨_, _, _, rfl⟩ := exec_env_next h noReset hagent
    rfl
  | irq =>
    obtain ⟨p, rfl⟩ := exec_eq_after (congrArg contextOf hagent) h
    exact after_mainCells p (.inl rfl) s
  | timebase =>
    obtain ⟨p, rfl⟩ := exec_eq_after (congrArg contextOf hagent) h
    exact after_mainCells p (.inr (.inr rfl)) s

/-- No phase but `TRIAC` moves the gate pin (R20, R186). -/
theorem phaseProgram_gateN {pc : Fin 7} (notTriac : pc ≠ 4) (s : State) :
    (after (phaseProgram pc) s).out.gateN = s.out.gateN := by
  match pc with
  | 0 | 1 | 2 | 5 | 6 => rfl
  | 3 => exact congrArg Pins.gateN (phaseDispatch_out s)
  | 4 => exact absurd rfl notTriac

/-- A half-wave's start leaves the gate or clears it (R188, R195). -/
theorem startHalfWave_gateN (s : State) :
    (after startHalfWave s).out.gateN = true ∨ (after startHalfWave s).out = s.out := by
  rw [startHalfWave_spec]
  split
  · exact .inl rfl
  · exact .inr rfl

/-- Serving a trigger leaves the gate or clears it (R190, R191, R195). -/
theorem serveTrigger_gateN (now : Instant16) (s : State) :
    (after (serveTrigger now) s).out.gateN = true ∨ (after (serveTrigger now) s).out = s.out := by
  rcases serveTrigger_cases now s with ⟨-, h⟩ | ⟨-, -, h⟩ | ⟨-, -, h⟩ <;> rw [h]
  · exact .inl rfl
  · exact .inr rfl
  · exact .inr rfl

/-- A `TRIAC` phase never sets the gate (R195, R198). -/
theorem phaseTriac_gateN (s : State) :
    (after phaseTriac s).out.gateN = true ∨ (after phaseTriac s).out = s.out := by
  have started := startHalfWave_gateN { s with clk := foldClock s.clk }
  rw [phaseTriac_spec]
  split
  · exact .inl rfl
  · split
    · rcases serveTrigger_gateN (clockInstant (foldClock s.clk))
        (after startHalfWave { s with clk := foldClock s.clk }) with cleared | kept
      · exact .inl cleared
      · rwa [kept]
    · exact started

/-- Only the `GateSet` phase of `IRQ_PULSE` sets the gate (R197). -/
theorem pulseHandler_gateN (tok : CsToken .irq) (s : State) :
    (after (pulseHandler tok) s).out.gateN = false ↔ s.pt.phase = .gateSet := by
  cases hphase : s.pt.phase with
  | gateSet => simp [pulseHandler_gateSet tok s hphase]
  | gateClear => simp [pulseHandler_gateClear tok s hphase]

/-- All an operation can do to the gate pin (R195, R197, R198). -/
theorem exec_gateN_cases {i : Instr} {s t : State} (h : exec i s = .next t) :
    t.out.gateN = s.out.gateN ∨ (i = .irqPulse ∧ (t.out.gateN = false → s.pt.phase = .gateSet)) ∨
      (t.out.gateN = true ∧ (performs 4 i s ∨ isReset i = true)) := by
  cases exec_effect h with
  | phase pc _ performed result =>
    subst result
    by_cases hpc : pc = 4
    · subst hpc
      rcases phaseTriac_gateN s with cleared | kept
      · exact .inr (.inr ⟨cleared, .inl performed⟩)
      · exact .inl (congrArg Pins.gateN kept)
    · exact .inl (phaseProgram_gateN hpc s)
  | pulse op result =>
    subst result
    exact .inr (.inl ⟨op, (pulseHandler_gateN _ s).mp⟩)
  | reset op result =>
    subst result
    exact .inr (.inr ⟨rfl, .inr op⟩)
  | tacho _ result => exact .inl (by rw [result, tachoHandler_out])
  | tick _ _ result | idle _ result | input _ _ _ _ result =>
    subst result
    exact .inl rfl

/-- No phase but `OUTPUT` moves the relay pin (R290). -/
theorem phaseProgram_secN {pc : Fin 7} (notOutput : pc ≠ 5) (s : State) :
    (after (phaseProgram pc) s).out.secN = s.out.secN := by
  match pc with
  | 0 | 1 | 2 | 6 => rfl
  | 3 => exact congrArg Pins.secN (phaseDispatch_out s)
  | 4 => exact phaseTriac_out_secN s
  | 5 => exact absurd rfl notOutput

/-- The relay pin moves only in an `OUTPUT` phase or by a reset (R290). -/
theorem exec_secN {i : Instr} {s t : State} (h : exec i s = .next t) (moved : t.out.secN ≠ s.out.secN) :
    performs 5 i s ∨ isReset i = true := by
  cases exec_effect h with
  | phase pc _ performed result =>
    subst result
    by_cases hpc : pc = 5
    · subst hpc
      exact .inl performed
    · exact absurd (phaseProgram_secN hpc s) moved
  | reset op => exact .inr op
  | tacho _ result => exact absurd (by rw [result, tachoHandler_out]) moved
  | pulse _ result => exact absurd (by rw [result, pulseHandler_out_secN]) moved
  | tick _ _ result | idle _ result | input _ _ _ _ result =>
    subst result
    exact absurd rfl moved

/-- Settles O26: the typed clauses from the induction over programs, the cells' clauses from them and from what an
operation can do to each pin. -/
theorem pinsHaveTheirWriters : Obligations.PinsHaveTheirWriters := by
  refine ⟨exec_body, fun _ => csToken_context, fun c p v s hc => after_putMain p hc v s, ?_⟩
  intro i s t h
  have gate := exec_gateN_cases h
  refine ⟨fun noReset => ⟨exec_mainCells h noReset, ?main, ?irq, ?env, ?timebase⟩, ?gateSet, ?gateCleared,
    exec_secN h⟩
  case main =>
    intro agent
    obtain ⟨p, rfl⟩ := exec_eq_after (congrArg contextOf agent) h
    exact after_main_frame p s
  case irq =>
    intro agent
    obtain ⟨p, rfl⟩ := exec_eq_after (congrArg contextOf agent) h
    exact after_irq_frame p s
  case env =>
    intro agent
    obtain ⟨_, _, _, rfl⟩ := exec_env_next h noReset agent
    exact ⟨rfl, rfl, rfl⟩
  case timebase =>
    intro agent
    obtain ⟨p, rfl⟩ := exec_eq_after (congrArg contextOf agent) h
    exact after_timebase_frame p s
  case gateSet =>
    intro before now
    rcases gate with kept | ⟨op, phase⟩ | ⟨cleared, -⟩
    · cases (now.symm.trans kept).trans before
    · exact ⟨op, phase now⟩
    · cases now.symm.trans cleared
  case gateCleared =>
    intro before now
    rcases gate with kept | ⟨op, -⟩ | ⟨-, writer⟩
    · cases (now.symm.trans kept).trans before
    · exact .inl op
    · exact .inr writer

/-! ## The cells no rule reads -/

/-- The analog channels with the two shunt-current channels cleared (R94, R313). -/
def eraseShunts (adc : Vector (Option AdcCode) 5) : Vector (Option AdcCode) 5 := (adc.set 1 none).set 2 none

/-- What a MAIN step reads, with the cells no rule reads cleared (R25, R313). -/
def eraseView (v : MainView) : MainView :=
  { v with adc := eraseShunts v.adc, ml := { v.ml with diagLoopRuntime := 0 } }

theorem mainView_eraseUnread (s : State) : mainView (eraseUnread s) = eraseView (mainView s) := rfl

/-- Clearing the shunt channels before a conversion is stored makes no difference after it. -/
theorem eraseShunts_set (adc : Vector (Option AdcCode) 5) (ch : Fin 5) (r : Option AdcCode) :
    eraseShunts ((eraseShunts adc).set ch r) = eraseShunts (adc.set ch r) := by
  apply Vector.ext
  intro k hk
  simp only [eraseShunts, Vector.getElem_set]
  split
  · rfl
  · split <;> rfl

/-- A channel that a rule reads: the setpoint and the two temperatures (R94, R318). -/
theorem adcGet_eraseView {ch : Fin 5} (read : ch = 0 ∨ ch = 3 ∨ ch = 4) (v : MainView) :
    adcGet ch (eraseView v) = adcGet ch v := by
  rcases read with rfl | rfl | rfl <;> simp [adcGet, eraseView, eraseShunts]

/-- The setpoint is read off channel 0 (R286). -/
theorem setpoint_eraseView (v : MainView) : setpoint (eraseView v) = setpoint v := by
  unfold setpoint
  rw [adcGet_eraseView (.inl rfl)]
  rfl

/-! Each procedure of `DISPATCH` commutes with clearing those cells: it reads the channels 0, 3 and 4 alone. -/

theorem tempStepChannel_eraseView {ch : Fin 5} (read : ch = 0 ∨ ch = 3 ∨ ch = 4) (k : Fin 2) (v : MainView) :
    tempStepChannel k ch (eraseView v) = eraseView (tempStepChannel k ch v) := by
  unfold tempStepChannel
  rw [adcGet_eraseView read]
  rfl

theorem tempStep_eraseView (v : MainView) : tempStep (eraseView v) = eraseView (tempStep v) := by
  unfold tempStep
  rw [tempStepChannel_eraseView (.inr (.inl rfl)), tempStepChannel_eraseView (.inr (.inr rfl))]

theorem housekeeping_eraseView (sp : Q) (speed : Option Q) (v : MainView) :
    housekeeping sp speed (eraseView v) = eraseView (housekeeping sp speed v) := by
  unfold housekeeping
  rw [tempStep_eraseView]
  rfl

theorem switchLoop_eraseView (sp : Q) (speed : Option Q) (v : MainView) :
    switchLoop sp speed (eraseView v) = eraseView (switchLoop sp speed v) := by
  unfold switchLoop
  rw [apply_ite eraseView, apply_ite eraseView]
  rfl

theorem zeroCrossingCheck_eraseView (now : Instant16) (zc : Bool) (v : MainView) :
    zeroCrossingCheck now zc (eraseView v) = eraseView (zeroCrossingCheck now zc v) := by
  unfold zeroCrossingCheck
  dsimp only
  rw [apply_ite eraseView]
  rfl

theorem safetyCycle_eraseView (now : Instant16) (sp speed : Q) (v : MainView) :
    safetyCycle now sp speed (eraseView v) = eraseView (safetyCycle now sp speed v) := by
  unfold safetyCycle
  dsimp only
  rw [apply_ite eraseView]
  rfl

theorem safetyStep_eraseView (now : Instant16) (sp speed : Q) (zc : Bool) (v : MainView) :
    safetyStep now sp speed zc (eraseView v) = eraseView (safetyStep now sp speed zc v) := by
  unfold safetyStep
  dsimp only
  rw [zeroCrossingCheck_eraseView, safetyCycle_eraseView, apply_ite eraseView]
  rfl

theorem controlPath_eraseView (now : Instant16) (due : Bool) (v : MainView) :
    controlPath now due (eraseView v) = eraseView (controlPath now due v) := by
  unfold controlPath
  dsimp only
  have speed : getSpeed (eraseView v) = getSpeed v := rfl
  rw [setpoint_eraseView, speed, switchLoop_eraseView, housekeeping_eraseView, ← apply_ite eraseView]
  exact congrArg decideShutoff (safetyStep_eraseView now _ _ _ _)

theorem startupStep_eraseView (now : Instant16) (v : MainView) :
    startupStep now (eraseView v) = eraseView (startupStep now v) := by
  unfold startupStep
  rw [apply_ite eraseView]
  rfl

theorem stageOutputs_eraseView (now : Instant16) (v : MainView) :
    stageOutputs now (eraseView v) = eraseView (stageOutputs now v) := by
  have stage : (eraseView v).post.stage = v.post.stage := rfl
  unfold stageOutputs
  rw [stage]
  cases v.post.stage <;> rfl

theorem postStep_eraseView (now : Instant16) (v : MainView) :
    postStep now (eraseView v) = eraseView (postStep now v) :=
  stageOutputs_eraseView now { v with post := stageNext v.cfg v.post (spinning v) now }

theorem dispatchState_eraseView (now : Instant16) (due : Bool) (v : MainView) :
    dispatchState now due (eraseView v) = eraseView (dispatchState now due v) := by
  have state : (eraseView v).sys.state = v.sys.state := rfl
  unfold dispatchState
  rw [state]
  cases v.sys.state with
  | startup => exact startupStep_eraseView now v
  | selfTest => exact postStep_eraseView now v
  | syncing | running => exact controlPath_eraseView now due v

theorem dispatchAt_eraseView (now : Instant16) (v : MainView) :
    dispatchAt now (eraseView v) = eraseView (dispatchAt now v) :=
  dispatchState_eraseView now (hkDue now v) (setArmed (hkArmedNow v && !hkDue now v) v)

/-- The state after `f`, but for the cells no rule reads, is a function of the state before but for them. -/
def IgnoresUnread (f : State → State) : Prop :=
  ∀ s s' : State, eraseUnread s = eraseUnread s' → eraseUnread (f s) = eraseUnread (f s')

/-- It is enough to name that function. -/
theorem ignoresUnread_of_factor {f : State → State} (g : State → State)
    (factor : ∀ s, eraseUnread (f s) = g (eraseUnread s)) : IgnoresUnread f := by
  intro s s' same
  rw [factor, factor, same]

@[simp] theorem eraseUnread_sys (s : State) : (eraseUnread s).sys = s.sys := rfl
@[simp] theorem eraseUnread_ms (s : State) : (eraseUnread s).ms = s.ms := rfl
@[simp] theorem eraseUnread_tr (s : State) : (eraseUnread s).tr = s.tr := rfl
@[simp] theorem eraseUnread_cfg (s : State) : (eraseUnread s).cfg = s.cfg := rfl

theorem folded_eraseUnread (s : State) : folded (eraseUnread s) = eraseUnread (folded s) := rfl
theorem nowOf_eraseUnread (s : State) : nowOf (eraseUnread s) = nowOf s := rfl

/-! Each part of a `TRIAC` phase commutes with clearing those cells. -/

theorem cancelTrigger_eraseUnread (s : State) :
    after cancelTrigger (eraseUnread s) = eraseUnread (after cancelTrigger s) := by
  rw [cancelTrigger_spec, cancelTrigger_spec]
  rfl

theorem armTrigger_eraseUnread (c : Cfg) (ref : Instant16) (eff : Nat) (s : State) :
    after (armTrigger c ref eff) (eraseUnread s) = eraseUnread (after (armTrigger c ref eff) s) := by
  rw [armTrigger_spec, armTrigger_spec]
  rfl

theorem startHalfWave_eraseUnread (s : State) :
    after startHalfWave (eraseUnread s) = eraseUnread (after startHalfWave s) := by
  rw [startHalfWave_spec, startHalfWave_spec, apply_ite eraseUnread]
  rfl

theorem serveTrigger_eraseUnread (now : Instant16) (s : State) :
    after (serveTrigger now) (eraseUnread s) = eraseUnread (after (serveTrigger now) s) := by
  simp [serveTrigger, scheduleTrigger, after_ite, apply_ite eraseUnread, cancelTrigger_eraseUnread,
    armTrigger_eraseUnread]

/-- What a phase `TRIAC` does, over the folded state (R186 to R188). -/
theorem phaseTriac_folded (s : State) :
    after phaseTriac s =
      if s.sys.primaryShutoff then after cancelTrigger (folded s)
      else if (after startHalfWave (folded s)).tr.pending then
        after (serveTrigger (nowOf s)) (after startHalfWave (folded s))
      else after startHalfWave (folded s) := phaseTriac_spec s

theorem phaseTriac_eraseUnread (s : State) :
    after phaseTriac (eraseUnread s) = eraseUnread (after phaseTriac s) := by
  simp only [phaseTriac_folded, folded_eraseUnread, nowOf_eraseUnread, eraseUnread_sys, eraseUnread_tr,
    cancelTrigger_eraseUnread, startHalfWave_eraseUnread, serveTrigger_eraseUnread, apply_ite eraseUnread]

theorem putMain_eraseView (v : MainView) (s : State) :
    putMain (eraseView v).toMainCells (eraseUnread s) = eraseUnread (putMain v.toMainCells s) := rfl

theorem phaseDispatch_eraseUnread (s : State) :
    after phaseDispatch (eraseUnread s) = eraseUnread (after phaseDispatch s) := by
  rw [phaseDispatch_spec, phaseDispatch_spec, mainView_eraseUnread, dispatchAt_eraseView, ← putMain_eraseView]
  rfl

theorem phaseMains_eraseUnread (s : State) :
    after phaseMains (eraseUnread s) = eraseUnread (after phaseMains s) := by
  rw [phaseMains_spec, phaseMains_spec]
  rfl

theorem phaseSpeed_eraseUnread (s : State) :
    after phaseSpeed (eraseUnread s) = eraseUnread (after phaseSpeed s) := by
  rw [phaseSpeed_spec, phaseSpeed_spec]
  rfl

/-- `LOOPTIME` as it is seen without the loop runtime: the clock read, and the new start (R282). -/
def looptimeStart (s : State) : State :=
  { s with clk := foldClock s.clk, ml := { s.ml with lastStart := clockInstant (foldClock s.clk) } }

theorem phaseLooptime_eraseUnread (s : State) :
    eraseUnread (after phaseLooptime s) = looptimeStart (eraseUnread s) := by
  rw [phaseLooptime_spec]
  rfl

/-- No phase looks at a cell of these (R25, R282). -/
theorem ignoresUnread_phase (pc : Fin 7) : IgnoresUnread (after (phaseProgram pc)) := by
  match pc with
  | 0 => exact ignoresUnread_of_factor looptimeStart phaseLooptime_eraseUnread
  | 1 => exact ignoresUnread_of_factor (after phaseMains) fun s => (phaseMains_eraseUnread s).symm
  | 2 => exact ignoresUnread_of_factor (after phaseSpeed) fun s => (phaseSpeed_eraseUnread s).symm
  | 3 => exact ignoresUnread_of_factor (after phaseDispatch) fun s => (phaseDispatch_eraseUnread s).symm
  | 4 => exact ignoresUnread_of_factor (after phaseTriac) fun s => (phaseTriac_eraseUnread s).symm
  | 5 => exact ignoresUnread_of_factor (after phaseOutput) fun _ => rfl
  | 6 => exact ignoresUnread_of_factor (after phaseWdt) fun _ => rfl

/-- A stored conversion changes a channel whatever the others hold (R313). -/
theorem ignoresUnread_adcSet (ch : Fin 5) (code : AdcCode) : IgnoresUnread (after (adcSet ch code)) := by
  refine ignoresUnread_of_factor (fun u => eraseUnread (after (adcSet ch code) u)) fun s => ?_
  exact congrArg
    (fun adc => { s with inp := { s.inp with adc := adc }, ml := { s.ml with diagLoopRuntime := 0 } })
    (eraseShunts_set s.inp.adc ch (some code)).symm

theorem ignoresUnread_tick : IgnoresUnread (after tickBody) :=
  ignoresUnread_of_factor (after tickBody) fun _ => rfl

theorem ignoresUnread_tacho (tok : CsToken .irq) : IgnoresUnread (after (tachoHandler tok)) := by
  refine ignoresUnread_of_factor (after (tachoHandler tok)) fun s => ?_
  rw [tachoHandler_spec, tachoHandler_spec]
  rfl

theorem ignoresUnread_pulse (tok : CsToken .irq) : IgnoresUnread (after (pulseHandler tok)) := by
  refine ignoresUnread_of_factor (after (pulseHandler tok)) fun s => ?_
  cases hphase : s.pt.phase with
  | gateSet =>
    have erased : (eraseUnread s).pt.phase = .gateSet := hphase
    rw [pulseHandler_gateSet tok s hphase, pulseHandler_gateSet tok _ erased]
    rfl
  | gateClear =>
    have erased : (eraseUnread s).pt.phase = .gateClear := hphase
    rw [pulseHandler_gateClear tok s hphase, pulseHandler_gateClear tok _ erased]
    rfl

/-- A reset clears those cells like every other (R371). -/
theorem ignoresUnread_reset : IgnoresUnread resetCells :=
  ignoresUnread_of_factor (fun u => eraseUnread (resetCells u)) fun _ => rfl

/-- A `MAIN_STEP`: the phase index is not one of those cells (R281). -/
theorem ignoresUnread_mainStep : IgnoresUnread fun s => after advancePhase (after performPhase s) := by
  intro s s' same
  have pc : s.ml.pc = s'.ml.pc := congrArg (fun u => u.ml.pc) same
  have performed := ignoresUnread_phase s.ml.pc s s' same
  dsimp only
  rw [performPhase_spec, performPhase_spec, ← pc]
  exact congrArg (after advancePhase) performed

/-- Guarded steps with the same guard agree where their results do (R86). -/
theorem sameUpToUnread_whenEnabled {b b' : Bool} {t t' : State} (guard : b = b')
    (same : eraseUnread t = eraseUnread t') : sameUpToUnread (whenEnabled b t) (whenEnabled b' t') := by
  subst guard
  cases b with
  | false => rfl
  | true => exact same

/-- Settles O56: each operation's guard and result are functions of the state without those cells. -/
theorem unreadCellsDoNotMatter : Obligations.UnreadCellsDoNotMatter := by
  intro i s s' same
  have running : (!s.wd.halted) = !s'.wd.halted := congrArg (fun u => !u.wd.halted) same
  cases i with
  | tick =>
    exact sameUpToUnread_whenEnabled (congrArg tickEnabled same :) (ignoresUnread_tick s s' same)
  | wdtReset =>
    exact sameUpToUnread_whenEnabled (congrArg watchdogExpired same :) (ignoresUnread_reset s s' same)
  | irqTacho =>
    exact sameUpToUnread_whenEnabled (congrArg (fun u => u.irq.tacho && !u.wd.halted) same)
      (ignoresUnread_tacho .irq s s' same)
  | irqPulse =>
    exact sameUpToUnread_whenEnabled (congrArg (fun u => u.irq.pt && !u.wd.halted) same)
      (ignoresUnread_pulse .irq s s' same)
  | irqMains | irqUart => exact sameUpToUnread_whenEnabled running same
  | mainStep => exact sameUpToUnread_whenEnabled running (ignoresUnread_mainStep s s' same)
  | por => exact ignoresUnread_reset s s' same
  | looptime => exact ignoresUnread_phase 0 s s' same
  | mains => exact ignoresUnread_phase 1 s s' same
  | speed => exact ignoresUnread_phase 2 s s' same
  | dispatch => exact ignoresUnread_phase 3 s s' same
  | triac => exact ignoresUnread_phase 4 s s' same
  | output => exact ignoresUnread_phase 5 s s' same
  | wdt => exact ignoresUnread_phase 6 s s' same
  | envAdcSetpoint code => exact ignoresUnread_adcSet 0 code s s' same
  | envAdcShunt0 code => exact ignoresUnread_adcSet 1 code s s' same
  | envAdcShunt1 code => exact ignoresUnread_adcSet 2 code s s' same
  | envAdcMottemp code => exact ignoresUnread_adcSet 3 code s s' same
  | envAdcDietemp code => exact ignoresUnread_adcSet 4 code s s' same
  | envMains level => exact congrArg (fun u => { u with inp := { u.inp with mains := level } }) same
  | envRtfault level => exact congrArg (fun u => { u with inp := { u.inp with rtfault := level } }) same
  | envAfeFail => exact congrArg (fun u => { u with inp := { u.inp with afeFailure := true } }) same
  | envTacho => exact congrArg (fun u => { u with irq := { u.irq with tacho := true } }) same
  | halt => exact congrArg (fun u => { u with wd := { u.wd with halted := true } }) same

end Sys2Proof.Proofs.Cells
end

section
/-! SUPPORT. What a cancel leaves of the pulse timer, and which operations keep it so (O33). -/

namespace Sys2Proof.Proofs.Quiet

open Sys2Proof.Machine Sys2Proof.Safety Sys2Proof.Laws Sys2Proof.Proofs.Scope Sys2Proof.Proofs.Cells

/-! ## What makes the timer quiet -/

/-- A cancelled trigger leaves the timer quiet (R79, R195). -/
theorem cancelTrigger_timerQuiet (s : State) : timerQuiet (after cancelTrigger s) := by
  rw [cancelTrigger_spec]
  exact ⟨rfl, rfl, rfl⟩

/-- So does a reset, whatever came before (R41, R371). -/
theorem resetCells_timerQuiet (s : State) : timerQuiet (resetCells s) := ⟨rfl, rfl, rfl⟩

/-- Shutoff has priority over every pending or new trigger (R187). -/
theorem phaseTriac_of_shutoff {s : State} (shutoff : s.sys.primaryShutoff = true) :
    after phaseTriac s = after cancelTrigger (folded s) := by
  rw [phaseTriac_folded, if_pos shutoff]

/-! ## What keeps the timer quiet -/

/-- A disabled timer matches no compare value, so `TICK` raises no request (R196, R310). -/
theorem tickBody_timerQuiet {s : State} (quiet : timerQuiet s) : timerQuiet (after tickBody s) := by
  obtain ⟨disabled, noRequest, clear⟩ := quiet
  rw [tickBody_spec]
  exact ⟨disabled, by simp [disabled, noRequest], clear⟩

/-- The tachometer handler has no part in the pulse timer (R166). -/
theorem tachoHandler_timerQuiet (tok : CsToken .irq) {s : State} (quiet : timerQuiet s) :
    timerQuiet (after (tachoHandler tok) s) := by
  rw [tachoHandler_spec]
  exact quiet

/-- No phase but `TRIAC` writes the pulse timer or its request (R20, R198). -/
theorem phaseProgram_pt_irq {pc : Fin 7} (notTriac : pc ≠ 4) (s : State) :
    (after (phaseProgram pc) s).pt = s.pt ∧ (after (phaseProgram pc) s).irq = s.irq := by
  match pc with
  | 0 | 1 | 2 | 5 | 6 => exact ⟨rfl, rfl⟩
  | 3 => exact ⟨phaseDispatch_pt s, phaseDispatch_irq s⟩
  | 4 => exact absurd rfl notTriac

/-- No phase but `TRIAC` ends the quiet (R198). -/
theorem phaseProgram_timerQuiet {pc : Fin 7} (notTriac : pc ≠ 4) {s : State} (quiet : timerQuiet s) :
    timerQuiet (after (phaseProgram pc) s) := by
  obtain ⟨hpt, hirq⟩ := phaseProgram_pt_irq notTriac s
  rwa [timerQuiet, hpt, hirq, phaseProgram_gateN notTriac]

/-- A quiet timer has no request, and without one the pulse handler is not enabled, halted or not (R79, R334). -/
theorem exec_irqPulse_of_timerQuiet {s : State} (quiet : timerQuiet s) :
    exec .irqPulse s = .refused .stepDisabled := by
  obtain ⟨-, noRequest, -⟩ := quiet
  rw [exec_irqPulse, noRequest, Bool.false_and, whenEnabled_false]

/-- A quiet timer stays quiet through every operation that performs no `TRIAC` phase: nothing else arms it, and the
handler that would set the gate is not enabled (R79, R198). -/
theorem exec_timerQuiet {i : Instr} {s t : State} (h : exec i s = .next t) (quiet : timerQuiet s)
    (notTriac : ¬ performs 4 i s) : timerQuiet t := by
  cases exec_effect h with
  | phase pc _ performed result =>
    have otherPhase : pc ≠ 4 := by
      rintro rfl
      exact notTriac performed
    subst result
    exact phaseProgram_timerQuiet otherPhase quiet
  | tick _ _ result =>
    subst result
    exact tickBody_timerQuiet quiet
  | tacho _ result =>
    subst result
    exact tachoHandler_timerQuiet _ quiet
  | pulse op =>
    subst op
    cases (exec_irqPulse_of_timerQuiet quiet).symm.trans h
  | reset _ result =>
    subst result
    exact resetCells_timerQuiet s
  | idle _ result | input _ _ _ _ result =>
    subst result
    exact quiet

/-- Settles O33: a shut-off `TRIAC` cancels, only a `TRIAC` phase can end the quiet a cancel leaves, and a quiet timer
has no request to serve. -/
theorem cancelledStaysQuiet : Obligations.CancelledStaysQuiet := by
  refine ⟨fun s t shutoff h => ?_, fun i s t quiet h => ?_, fun _ => exec_irqPulse_of_timerQuiet⟩
  · rw [exec_triac, phaseTriac_of_shutoff shutoff] at h
    cases h
    exact cancelTrigger_timerQuiet (folded s)
  · by_cases triac : performs 4 i s
    · exact .inr triac
    · exact .inl (exec_timerQuiet h quiet triac)

end Sys2Proof.Proofs.Quiet
end

section
/-! SUPPORT. The two fields of an event word, the operand forms and the operation map (O1 to O4), and the enabling
conditions (O7). -/

namespace Sys2Proof.Proofs.Encoding

open Sys2Proof.Machine Sys2Proof.Safety Sys2Proof.Laws Sys2Proof.Proofs.Scope

/-! ## The fields of an event word (R81) -/

@[simp] theorem opOf_eventWord (op : BitVec 5) (arg : BitVec 11) : opOf (eventWord op arg) = op :=
  BitVec.extractLsb'_append_eq_left

@[simp] theorem argOf_eventWord (op : BitVec 5) (arg : BitVec 11) : argOf (eventWord op arg) = arg :=
  BitVec.extractLsb'_append_eq_right

/-- A word is made of its two fields. -/
theorem eventWord_opOf_argOf (w : Word) : eventWord (opOf w) (argOf w) = w := by
  calc eventWord (opOf w) (argOf w) = w.extractLsb' 0 16 :=
        BitVec.extractLsb'_append_extractLsb'_eq_extractLsb' rfl
    _ = w := BitVec.extractLsb'_eq_self

theorem opOf_toNat (w : Word) : (opOf w).toNat = w.toNat / 2048 := by
  rw [opOf, BitVec.extractLsb'_toNat, Nat.shiftRight_eq_div_pow]
  omega

theorem argOf_toNat (w : Word) : (argOf w).toNat = w.toNat % 2048 := by
  rw [argOf, BitVec.extractLsb'_toNat, Nat.shiftRight_zero]

/-! ## The operand forms (R83, R85) -/

theorem decodeNoOperand_eq_some_iff {arg : BitVec 11} {i j : Instr} :
    decodeNoOperand arg i = some j ↔ arg = 0 ∧ i = j := by
  simp [decodeNoOperand]

theorem decodeNoOperand_eq_none_iff {arg : BitVec 11} {i : Instr} :
    decodeNoOperand arg i = none ↔ arg.toNat ≠ 0 := by
  simp [decodeNoOperand, BitVec.toNat_eq]

/-- The bits above a level operand, as a number. -/
theorem levelBits_eq_zero_iff (arg : BitVec 11) : arg.extractLsb' 1 10 = 0 ↔ arg.toNat < 2 := by
  rw [BitVec.toNat_eq, BitVec.extractLsb'_toNat, Nat.shiftRight_eq_div_pow]
  have bound := arg.isLt
  simp only [BitVec.ofNat_eq_ofNat, BitVec.toNat_ofNat]
  omega

/-- The bit above an analog code, as a number. -/
theorem codeBit_eq_false_iff (arg : BitVec 11) : arg.getLsbD 10 = false ↔ arg.toNat < 1024 := by
  have bound := arg.isLt
  rw [BitVec.getLsbD, Nat.testBit_eq_decide_div_mod_eq, decide_eq_false_iff_not]
  omega

@[simp] theorem decodeLevel_levelArg (level : Bool) (mk : Bool → Instr) :
    decodeLevel (levelArg level) mk = some (mk level) := by
  cases level <;> rfl

theorem decodeLevel_eq_none_iff {arg : BitVec 11} {mk : Bool → Instr} :
    decodeLevel arg mk = none ↔ 2 ≤ arg.toNat := by
  simp only [decodeLevel, levelBits_eq_zero_iff, ite_eq_right_iff, reduceCtorEq, imp_false, Nat.not_lt]

/-- A level operand that decodes is the operand of its level. -/
theorem decodeLevel_eq_some_iff {arg : BitVec 11} {mk : Bool → Instr} {i : Instr} :
    decodeLevel arg mk = some i ↔ ∃ level, arg = levelArg level ∧ mk level = i := by
  constructor
  · intro h
    have low : arg.toNat < 2 := by
      by_contra high
      rw [decodeLevel_eq_none_iff.mpr (Nat.le_of_not_lt high)] at h
      cases h
    obtain ⟨level, rfl⟩ : ∃ level, arg = levelArg level := by
      obtain zero | one : arg.toNat = 0 ∨ arg.toNat = 1 := by omega
      · exact ⟨false, BitVec.eq_of_toNat_eq zero⟩
      · exact ⟨true, BitVec.eq_of_toNat_eq one⟩
    rw [decodeLevel_levelArg] at h
    exact ⟨level, rfl, Option.some.inj h⟩
  · rintro ⟨level, rfl, rfl⟩
    exact decodeLevel_levelArg level mk

theorem codeArg_toNat (code : AdcCode) : (codeArg code).toNat = code.toNat := by
  have bound := code.isLt
  rw [codeArg, BitVec.zeroExtend, BitVec.toNat_setWidth]
  omega

@[simp] theorem decodeCode_codeArg (code : AdcCode) (mk : AdcCode → Instr) :
    decodeCode (codeArg code) mk = some (mk code) := by
  have clear : (codeArg code).getLsbD 10 = false := by
    rw [codeBit_eq_false_iff, codeArg_toNat]
    exact code.isLt
  have read : (codeArg code).extractLsb' 0 10 = code := by
    rw [codeArg, BitVec.zeroExtend, BitVec.extractLsb'_setWidth_of_le (by decide), BitVec.extractLsb'_eq_self]
  rw [decodeCode, if_pos clear, read]

theorem decodeCode_eq_none_iff {arg : BitVec 11} {mk : AdcCode → Instr} :
    decodeCode arg mk = none ↔ 1024 ≤ arg.toNat := by
  simp only [decodeCode, codeBit_eq_false_iff, ite_eq_right_iff, reduceCtorEq, imp_false, Nat.not_lt]

/-- A code operand that decodes is the operand of its code. -/
theorem decodeCode_eq_some_iff {arg : BitVec 11} {mk : AdcCode → Instr} {i : Instr} :
    decodeCode arg mk = some i ↔ ∃ code, arg = codeArg code ∧ mk code = i := by
  constructor
  · intro h
    have low : arg.toNat < 1024 := by
      by_contra high
      rw [decodeCode_eq_none_iff.mpr (Nat.le_of_not_lt high)] at h
      cases h
    obtain ⟨code, rfl⟩ : ∃ code, arg = codeArg code := by
      refine ⟨BitVec.ofNat 10 arg.toNat, BitVec.eq_of_toNat_eq ?_⟩
      rw [codeArg_toNat, BitVec.toNat_ofNat, Nat.mod_eq_of_lt low]
    rw [decodeCode_codeArg] at h
    exact ⟨code, rfl, Option.some.inj h⟩
  · rintro ⟨code, rfl, rfl⟩
    exact decodeCode_codeArg code mk

/-! ## The operation map (R84) -/

/-- Settles O1: the fields of a word are the ones it was made of, and each operand form reads its operand back; the
codes without an operand are closed. -/
theorem decodeInvertsEncode : Obligations.DecodeInvertsEncode := by
  intro i
  cases i with
  | envMains | envRtfault | envAdcSetpoint | envAdcShunt0 | envAdcShunt1 | envAdcMottemp | envAdcDietemp =>
    simp only [encode, decode, decodeEvent, opOf_eventWord, argOf_eventWord, BitVec.reduceToNat,
      decodeLevel_levelArg, decodeCode_codeArg]
  | tick | envTacho | envAfeFail | irqMains | irqTacho | irqPulse | irqUart | mainStep | wdtReset | por | halt
  | looptime | mains | speed | dispatch | triac | output | wdt => rfl

/-- All the map can say of a word: its `op` names an operation of one of the three operand forms, whose code has that
`op`, or no operation. -/
inductive MapRow (w : Word) : Prop
  /-- The operation has no operand. -/
  | noOperand (i : Instr) (decoded : decodeEvent w = decodeNoOperand (argOf w) i)
      (encoded : encode i = .event (eventWord (opOf w) 0))
      (op : (opOf w).toNat = 0x01 ∨ (opOf w).toNat = 0x03 ∨ (opOf w).toNat = 0x09 ∨
        (0x0B ≤ (opOf w).toNat ∧ (opOf w).toNat ≤ 0x12))
  /-- The operation has a level. -/
  | level (mk : Bool → Instr) (decoded : decodeEvent w = decodeLevel (argOf w) mk)
      (encoded : ∀ level, encode (mk level) = .event (eventWord (opOf w) (levelArg level)))
      (op : (opOf w).toNat = 0x02 ∨ (opOf w).toNat = 0x0A)
  /-- The operation has an analog code. -/
  | code (mk : AdcCode → Instr) (decoded : decodeEvent w = decodeCode (argOf w) mk)
      (encoded : ∀ code, encode (mk code) = .event (eventWord (opOf w) (codeArg code)))
      (op : 0x04 ≤ (opOf w).toNat ∧ (opOf w).toNat ≤ 0x08)
  /-- The map has no such `op`. -/
  | unmapped (decoded : decodeEvent w = none) (op : (opOf w).toNat = 0 ∨ 0x13 ≤ (opOf w).toNat)

/-- An `op` of known number is that number's bits. -/
theorem opOf_eq_ofNat {w : Word} {n : Nat} (h : (opOf w).toNat = n) : opOf w = BitVec.ofNat 5 n := by
  rw [← h, BitVec.ofNat_toNat, BitVec.setWidth_eq]

/-- The map, read once: every word has its row. -/
theorem mapRow (w : Word) : MapRow w := by
  have decoded := decodeEvent.eq_def w
  split at decoded
  case h_1 op | h_3 op | h_9 op | h_11 op | h_12 op | h_13 op | h_14 op | h_15 op | h_16 op | h_17 op | h_18 op =>
    exact .noOperand _ decoded (by rw [opOf_eq_ofNat op]; rfl) (by omega)
  case h_2 op | h_10 op => exact .level _ decoded (fun _ => by rw [opOf_eq_ofNat op]; rfl) (by omega)
  case h_4 op | h_5 op | h_6 op | h_7 op | h_8 op =>
    exact .code _ decoded (fun _ => by rw [opOf_eq_ofNat op]; rfl) (by omega)
  case h_19 =>
    simp only [imp_false] at *
    exact .unmapped decoded (by omega)

/-- A word that decodes is the code of the operation it decodes to. -/
theorem encode_of_decodeEvent {w : Word} {i : Instr} (h : decodeEvent w = some i) : encode i = .event w := by
  cases mapRow w with
  | noOperand j decoded encoded =>
    rw [decoded, decodeNoOperand_eq_some_iff] at h
    obtain ⟨zero, rfl⟩ := h
    rw [encoded, ← zero, eventWord_opOf_argOf]
  | level mk decoded encoded =>
    rw [decoded, decodeLevel_eq_some_iff] at h
    obtain ⟨level, operand, rfl⟩ := h
    rw [encoded, ← operand, eventWord_opOf_argOf]
  | code mk decoded encoded =>
    rw [decoded, decodeCode_eq_some_iff] at h
    obtain ⟨code, operand, rfl⟩ := h
    rw [encoded, ← operand, eventWord_opOf_argOf]
  | unmapped decoded => cases decoded.symm.trans h

/-- Only an event has an event word (R82). -/
theorem isEvent_of_encode {i : Instr} {w : Word} (h : encode i = .event w) : i.isEvent = true := by
  cases i with
  | looptime | mains | speed | dispatch | triac | output | wdt => cases h
  | tick | envMains | envTacho | envAdcSetpoint | envAdcShunt0 | envAdcShunt1 | envAdcMottemp | envAdcDietemp
  | envAfeFail | envRtfault | irqMains | irqTacho | irqPulse | irqUart | mainStep | wdtReset | por | halt => rfl

/-- A phase code decodes to the phase whose code it is (R82). -/
theorem encode_of_decodePhase {p : BitVec 3} {i : Instr} (h : decodePhase p = some i) :
    encode i = .phase p ∧ i.isEvent = false := by
  match p with
  | 0 | 1 | 2 | 3 | 4 | 5 | 6 =>
    cases h
    exact ⟨rfl, rfl⟩
  | 7 => cases h

/-- Settles O2, from the rows of the map (`mapRow`) and the eight phase codes. -/
theorem legalCodeHasOneMeaning : Obligations.LegalCodeHasOneMeaning :=
  ⟨fun _ _ h => ⟨encode_of_decodeEvent h, isEvent_of_encode (encode_of_decodeEvent h)⟩,
   fun _ _ => encode_of_decodePhase⟩

/-- The illegal words, by the number in each field (R85). -/
theorem decodeEvent_eq_none_iff (w : Word) : decodeEvent w = none ↔
    ((opOf w).toNat = 0 ∨ 0x13 ≤ (opOf w).toNat) ∨
    (((opOf w).toNat = 0x02 ∨ (opOf w).toNat = 0x0A) ∧ 2 ≤ (argOf w).toNat) ∨
    ((0x04 ≤ (opOf w).toNat ∧ (opOf w).toNat ≤ 0x08) ∧ 1024 ≤ (argOf w).toNat) ∨
    (((opOf w).toNat = 0x01 ∨ (opOf w).toNat = 0x03 ∨ (opOf w).toNat = 0x09 ∨
      (0x0B ≤ (opOf w).toNat ∧ (opOf w).toNat ≤ 0x12)) ∧ (argOf w).toNat ≠ 0) := by
  cases mapRow w with
  | noOperand i decoded _ op =>
    rw [decoded, decodeNoOperand_eq_none_iff]
    omega
  | level mk decoded _ op =>
    rw [decoded, decodeLevel_eq_none_iff]
    omega
  | code mk decoded _ op =>
    rw [decoded, decodeCode_eq_none_iff]
    omega
  | unmapped decoded op => exact iff_of_true decoded (.inl op)

/-- An illegal word is refused (R85). -/
theorem runWord_of_illegal {w : Word} (h : decodeEvent w = none) (s : State) :
    runWord w s = .refused .illegalWord := by simp [runWord, h]

/-- Settles O3: the fields read as numbers, and a step at an illegal word past the configuration check. -/
theorem illegalWordsRefused : Obligations.IllegalWordsRefused := by
  refine ⟨fun w => ?_, fun s w rest hwf htrace illegal => ?_⟩
  · rw [← opOf_toNat, ← argOf_toNat]
    exact decodeEvent_eq_none_iff w
  · calc step s = whenAdmitted s.cfg (runWord w { s with trace := rest }) := step_of_trace_cons htrace
      _ = runWord w { s with trace := rest } := whenAdmitted_of_wf hwf _
      _ = .refused .illegalWord := runWord_of_illegal illegal _

/-- Settles O4: the decoder evaluated on the words that R84 writes out and on four phase codes. -/
theorem decodesMapWords : Obligations.DecodesMapWords := by
  unfold Obligations.DecodesMapWords
  decide

/-! ## The enabling conditions (R86) -/

/-- What an operation answers, by its enabling condition: every arm of `exec` is a guard on it (R84, R86). -/
theorem exec_guarded (i : Instr) (s : State) :
    ∃ (enabled : Bool) (t : State), exec i s = whenEnabled enabled t ∧ (enabled = true ↔ enabledWhen i s) := by
  cases i with
  | tick => exact ⟨_, _, exec_tick s, decide_eq_true_iff⟩
  | wdtReset => exact ⟨_, _, exec_wdtReset s, decide_eq_true_iff⟩
  | irqMains => exact ⟨_, _, exec_irqMains s, by simp [enabledWhen]⟩
  | irqUart => exact ⟨_, _, exec_irqUart s, by simp [enabledWhen]⟩
  | mainStep => exact ⟨_, _, exec_mainStep s, by simp [enabledWhen]⟩
  | irqTacho => exact ⟨_, _, exec_irqTacho s, by simp [enabledWhen]⟩
  | irqPulse => exact ⟨_, _, exec_irqPulse s, by simp [enabledWhen]⟩
  | envMains | envTacho | envAdcSetpoint | envAdcShunt0 | envAdcShunt1 | envAdcMottemp | envAdcDietemp
  | envAfeFail | envRtfault | por | halt | looptime | mains | speed | dispatch | triac | output | wdt =>
    exact ⟨true, _, rfl, iff_of_true rfl trivial⟩

/-- Where its condition holds, an operation completes. -/
theorem exec_of_enabled {i : Instr} {s : State} (h : enabledWhen i s) : ∃ t, exec i s = .next t := by
  obtain ⟨enabled, t, guarded, condition⟩ := exec_guarded i s
  exact ⟨t, guarded.trans (whenEnabled_next_iff.mpr ⟨condition.mpr h, rfl⟩)⟩

/-- Where its condition fails, an operation is refused. -/
theorem exec_of_not_enabled {i : Instr} {s : State} (h : ¬ enabledWhen i s) :
    exec i s = .refused .stepDisabled := by
  obtain ⟨enabled, t, guarded, condition⟩ := exec_guarded i s
  have disabled : enabled = false := Bool.eq_false_iff.mpr (mt condition.mp h)
  rw [guarded, disabled, whenEnabled_false]

/-- No enabling condition reads the trace (R84). -/
theorem enabledWhen_withTrace (i : Instr) (s : State) (rest : List Word) :
    enabledWhen i { s with trace := rest } ↔ enabledWhen i s := by
  cases i <;> exact Iff.rfl

/-- Settles O7: an operation is its guard, and a step at its word is the operation on a state with the same guard. -/
theorem enabledExactlyAsMapped : Obligations.EnabledExactlyAsMapped := by
  refine ⟨fun _ _ _ => exec_of_enabled, fun _ _ _ => exec_of_not_enabled, fun s w rest i hwf htrace hdecode => ?_⟩
  rw [stepRunsDecodedEvent s w rest i hwf htrace hdecode, ← enabledWhen_withTrace i s rest]
  exact ⟨exec_of_enabled, exec_of_not_enabled⟩

end Sys2Proof.Proofs.Encoding
end

section
/-! SUPPORT. The numeric primitives on instants: the large clock (O18, O19) and the modular order (O57). -/

namespace Sys2Proof.Proofs.Instants

open Sys2Proof.Machine Sys2Proof.Safety Sys2Proof.Laws Sys2Proof.Proofs.Cells

/-! ## The large clock (R115, R116) -/

/-- The high byte after the fold, as a number (R116). -/
theorem foldHi_toNat (tov : Bool) (hi : Byte) :
    (foldHi tov hi).toNat = (hi.toNat + (if tov then 1 else 0)) % 256 := by
  cases tov with
  | false => exact (Nat.mod_eq_of_lt hi.isLt).symm
  | true => exact BitVec.toNat_add hi 1

/-- The large instant is the high byte times 256 plus the counter (R70, R116). -/
theorem clockInstant_toNat (k : Clock) : (clockInstant k).toNat = k.hi.toNat * 256 + k.tcnt.toNat := by
  have low : k.tcnt.toNat < 2 ^ 8 := k.tcnt.isLt
  calc (clockInstant k).toNat = k.hi.toNat <<< 8 ||| k.tcnt.toNat := BitVec.toNat_append k.hi k.tcnt
    _ = k.hi.toNat <<< 8 + k.tcnt.toNat := (Nat.shiftLeft_add_eq_or_of_lt low _).symm
    _ = k.hi.toNat * 256 + k.tcnt.toNat := by rw [Nat.shiftLeft_eq]

/-- What `now_large` answers, as a number (R116). -/
theorem nowOf_toNat (s : State) :
    (nowOf s).toNat = ((s.clk.hi.toNat + (if s.clk.tov then 1 else 0)) % 256) * 256 + s.clk.tcnt.toNat := by
  unfold nowOf
  rw [clockInstant_toNat, ← foldHi_toNat]
  rfl

/-- Settles O19: `now_large` folds the clock and answers the folded cells, and folding again changes nothing. -/
theorem nowLargeFoldsOverflow : Obligations.NowLargeFoldsOverflow := by
  refine fun s => ⟨?_, ⟨foldHi s.clk.tov s.clk.hi, foldHi_toNat _ _, rfl⟩, ?_, rfl, ?_⟩
  · rw [nowLarge_spec]
    exact nowOf_toNat s
  · simp only [nowLarge_spec, nowLarge_clk, foldClock_foldClock]
    rfl
  · rw [readClock_spec, nowLarge_spec]

/-- A tick moves the counter by one, sets the overflow flag where it wraps, and leaves the high byte (R310). -/
theorem exec_tick_clk {s t : State} (h : exec .tick s = .next t) :
    t.clk.hi = s.clk.hi ∧ t.clk.tcnt.toNat = (s.clk.tcnt.toNat + 1) % 256 ∧
      (t.clk.tov = true ↔ s.clk.tov = true ∨ s.clk.tcnt.toNat = 255) := by
  rw [exec_tick, whenEnabled_next_iff, tickBody_spec] at h
  obtain ⟨-, rfl⟩ := h
  have wraps : s.clk.tcnt + 1 = 0 ↔ s.clk.tcnt.toNat = 255 := by bv_omega
  exact ⟨rfl, BitVec.toNat_add s.clk.tcnt 1, by rw [← wraps, Bool.or_eq_true, decide_eq_true_eq]⟩

/-- Where `n + 1` ticks complete, the first one does and so do the other `n`. -/
theorem tickTimes_succ_next {n : Nat} {s u : State} (h : tickTimes (n + 1) s = .next u) :
    ∃ t, exec .tick s = .next t ∧ tickTimes n t = .next u := by
  unfold tickTimes at h
  split at h
  next t first => exact ⟨t, first, h⟩
  next => cases h
  next => cases h

/-- The clock cells after `n` ticks: the counter modulo 256, and the overflow flag once it has wrapped (R310). -/
theorem tickTimes_clk {n : Nat} {s t : State} (h : tickTimes n s = .next t) :
    t.clk.hi = s.clk.hi ∧ t.clk.tcnt.toNat = (s.clk.tcnt.toNat + n) % 256 ∧
      (t.clk.tov = true ↔ s.clk.tov = true ∨ 256 ≤ s.clk.tcnt.toNat + n) := by
  induction n generalizing s with
  | zero =>
    obtain rfl : s = t := Host.Outcome.next.inj h
    have low : s.clk.tcnt.toNat < 256 := s.clk.tcnt.isLt
    exact ⟨rfl, by omega, (or_iff_left (by omega)).symm⟩
  | succ n ih =>
    obtain ⟨s₁, first, others⟩ := tickTimes_succ_next h
    obtain ⟨hi₁, tcnt₁, tov₁⟩ := exec_tick_clk first
    obtain ⟨hi, tcnt, tov⟩ := ih others
    have low : s.clk.tcnt.toNat < 256 := s.clk.tcnt.isLt
    have wrapped : s.clk.tcnt.toNat = 255 ∨ 256 ≤ s₁.clk.tcnt.toNat + n ↔ 256 ≤ s.clk.tcnt.toNat + (n + 1) := by
      omega
    exact ⟨hi.trans hi₁, by omega, by rw [tov, tov₁, or_assoc, wrapped]⟩

/-- Settles O18: one wrap is held by the overflow flag and read into the high byte; a second one leaves no mark. -/
theorem clockCountsTicks : Obligations.ClockCountsTicks := by
  intro s t n clear h
  obtain ⟨hi, tcnt, tov⟩ := tickTimes_clk h
  have counter : s.clk.tcnt.toNat < 256 := s.clk.tcnt.isLt
  have high : s.clk.hi.toNat < 256 := s.clk.hi.isLt
  have start : (nowOf s).toNat = s.clk.hi.toNat * 256 + s.clk.tcnt.toNat := by
    simp [nowOf_toNat, clear, Nat.mod_eq_of_lt high]
  have stop : (nowOf t).toNat =
      (s.clk.hi.toNat + (if 256 ≤ s.clk.tcnt.toNat + n then 1 else 0)) % 256 * 256 +
        (s.clk.tcnt.toNat + n) % 256 := by
    simp [nowOf_toNat, hi, tcnt, tov, clear]
  constructor <;> intros <;> split at stop <;> omega

/-! ## The modular order (R113, R114) -/

/-- Less than half the range apart, the signed difference of wrapped instants is that of the true times (R113). -/
theorem sdelta_ofNat {w a b : Nat} (ahead : 2 * a < 2 * b + 2 ^ w) (behind : 2 * b < 2 * a + 2 ^ w) :
    sdelta (BitVec.ofNat w a) (BitVec.ofNat w b) = (a : Int) - b := by
  unfold sdelta iSub
  rw [BitVec.toInt_sub, BitVec.toInt_ofNat', BitVec.toInt_ofNat', Int.bmod_sub_bmod, Int.sub_bmod_bmod]
  exact Int.bmod_eq_of_le (by omega) (by omega)

/-- The signed difference to an instant `d` later is `d` read as a signed number (R113). -/
theorem sdelta_add_self {w : Nat} (b d : BitVec w) : sdelta (b + d) b = d.toInt := by
  unfold sdelta iSub
  rw [BitVec.add_comm, BitVec.add_sub_cancel]

/-- Where the signed difference is that of the true times, the comparisons are theirs (R113). -/
theorem order_of_sdelta {w a b : Nat}
    (delta : sdelta (BitVec.ofNat w a) (BitVec.ofNat w b) = (a : Int) - b) :
    (iGe (BitVec.ofNat w a) (BitVec.ofNat w b) = true ↔ b ≤ a) ∧
    (iGt (BitVec.ofNat w a) (BitVec.ofNat w b) = true ↔ b < a) ∧
    (iLt (BitVec.ofNat w a) (BitVec.ofNat w b) = true ↔ a < b) := by
  unfold iLt iGe iGt
  rw [delta]
  simp

/-- Settles O57: both widths are one law of the signed difference; at exactly half the range it is the least value. -/
theorem modularOrderIsTrueOrder : Obligations.ModularOrderIsTrueOrder := by
  refine ⟨fun a b ahead behind => order_of_sdelta (sdelta_ofNat (by omega) (by omega)),
    fun a b ahead behind => order_of_sdelta (sdelta_ofNat (by omega) (by omega)), fun b => ?_⟩
  have least : (0x8000 : Instant16).toInt < 0 := by decide
  unfold iGe
  rw [sdelta_add_self]
  exact decide_eq_false (by omega)

end Sys2Proof.Proofs.Instants
end

section
/-! SUPPORT. The numeric primitives on values: Q8.8 arithmetic (O58), curves (O59), the low-pass filter and the speed
conversion (O60). -/

namespace Sys2Proof.Proofs.Values

open Sys2Proof.Machine Sys2Proof.Laws

/-! ## Q8.8 arithmetic (R117 to R123) -/

/-- Negation saturates at the upper bound alone (R120). -/
theorem qneg_toInt (a : Q) : (qneg a).toInt = min 32767 (-a.toInt) := by
  obtain ⟨lower, upper⟩ := q_range a
  unfold qneg
  rw [sat16_toInt]
  omega

/-- The absolute value saturates at the upper bound alone (R120). -/
theorem qabs_toInt (a : Q) : (qabs a).toInt = min 32767 |a.toInt| := by
  have nonneg := abs_nonneg a.toInt
  unfold qabs
  rw [sat16_toInt, Int.natCast_natAbs]
  omega

/-- The quotient by a divisor other than 0 (R122). -/
theorem qdiv_toInt {a b : Q} (h : b.toInt ≠ 0) :
    (qdiv a b).toInt = max (-32768) (min 32767 ((a.toInt * 256).tdiv b.toInt)) := by
  have nonzero : b ≠ 0 := fun zero => h (zero ▸ rfl)
  unfold qdiv
  rw [if_neg nonzero, sat16_toInt]

/-- The quotient by 0 goes by the dividend's sign (R122). -/
theorem qdiv_zero (a : Q) :
    (0 < a.toInt → (qdiv a 0).toInt = 32767) ∧ (a.toInt < 0 → (qdiv a 0).toInt = -32768) ∧
      (a.toInt = 0 → (qdiv a 0).toInt = 0) := by
  unfold qdiv
  rw [if_pos rfl]
  refine ⟨fun positive => ?_, fun negative => ?_, fun zero => ?_⟩
  · rw [if_pos positive]
    rfl
  · rw [if_neg (by omega), if_pos negative]
    rfl
  · rw [if_neg (by omega), if_neg (by omega)]
    rfl

/-- Settles O58: every operation saturates its exact integer result. -/
theorem saturatingArithmetic : Obligations.SaturatingArithmetic := by
  intro a b
  obtain ⟨floorLe, ltFloor⟩ := fdiv_between (n := a.toInt * b.toInt) (d := 256) (by omega)
  refine ⟨sat16_toInt _, sat16_toInt _, qneg_toInt a, qabs_toInt a,
    ⟨_, floorLe, ltFloor, sat16_toInt _⟩, qdiv_toInt, fun zero => ?_, fun n => sat16_toInt _⟩
  obtain rfl : b = 0 := BitVec.eq_of_toInt_eq zero
  exact qdiv_zero a

/-! ## Curves (R125, R126) -/

/-- The first knot of a rising curve lies before every other (R125). -/
theorem first_lt_of_rises {k l : Knot} {rest : List Knot} (rising : Curve.rises (k :: rest) = true)
    (later : l ∈ rest) : k.x.toInt < l.x.toInt := by
  induction rest generalizing k with
  | nil => cases later
  | cons m rest ih =>
    simp only [Curve.rises, Bool.and_eq_true, decide_eq_true_eq] at rising
    obtain ⟨km, rising⟩ := rising
    rcases List.mem_cons.mp later with rfl | later
    · exact km
    · exact km.trans (ih rising later)

/-- At the start of a segment the interpolation is the knot's value (R126). -/
theorem interpolate_left {k l : Knot} {x : Q} (h : x.toInt = k.x.toInt) : interpolate k l x = k.y := by
  obtain ⟨lower, upper⟩ := q_range k.y
  refine BitVec.eq_of_toInt_eq ?_
  unfold interpolate
  rw [h, Int.sub_self, Int.zero_mul, Int.zero_fdiv, Int.add_zero, ofInt16_toInt lower upper]

/-- From the first knot on, the value is that of the search along the segments (R126). -/
theorem curveEval_cons {k : Knot} {rest : List Knot} {x : Q} (rising : Curve.rises (k :: rest) = true)
    (h : k.x.toInt ≤ x.toInt) : curveEval (k :: rest) x = curveFrom k rest x := by
  unfold curveEval
  dsimp only
  split
  next before =>
    cases rest with
    | nil => rfl
    | cons l rest =>
      have kl : k.x.toInt < l.x.toInt := first_lt_of_rises rising (by simp)
      rw [curveFrom, if_pos (by omega), interpolate_left (by omega)]
  next => rfl

/-- The search passes over the knots before one that `x` has reached (R126). -/
theorem curveFrom_append {k l : Knot} {init tail : List Knot} {x : Q}
    (rising : Curve.rises (k :: (init ++ l :: tail)) = true) (h : l.x.toInt ≤ x.toInt) :
    curveFrom k (init ++ l :: tail) x = curveFrom l tail x := by
  induction init generalizing k with
  | nil => exact if_neg (Int.not_lt.mpr h)
  | cons m init ih =>
    have rest : Curve.rises (m :: (init ++ l :: tail)) = true := (Bool.and_eq_true_iff.mp rising).2
    have ml : m.x.toInt < l.x.toInt := first_lt_of_rises rest (by simp)
    calc curveFrom k (m :: (init ++ l :: tail)) x = curveFrom m (init ++ l :: tail) x := if_neg (by omega)
      _ = curveFrom l tail x := ih rest

/-- The value at or past a knot of the curve is that of the search from that knot on (R126). -/
theorem curveEval_append {k : Knot} {init tail : List Knot} {x : Q}
    (rising : Curve.rises (init ++ k :: tail) = true) (h : k.x.toInt ≤ x.toInt) :
    curveEval (init ++ k :: tail) x = curveFrom k tail x := by
  cases init with
  | nil => exact curveEval_cons rising h
  | cons first init =>
    have firstBefore : first.x.toInt < k.x.toInt := first_lt_of_rises rising (by simp)
    exact (curveEval_cons rising (by omega)).trans (curveFrom_append rising h)

/-- Settles O59: at or past a knot the curve is the search from there, which answers at the next knot or the end. -/
theorem curveInterpolates : Obligations.CurveInterpolates := by
  intro c x valid
  have rising : Curve.rises c = true := (Bool.and_eq_true_iff.mp valid).2
  refine ⟨?_, ?_, ?_⟩
  · rintro k rest rfl before
    exact if_pos before
  · rintro init k rfl reached
    rw [curveEval_append rising reached]
    rfl
  · rintro init k l rest rfl reached before
    rw [curveEval_append rising reached, curveFrom, if_pos before]
    exact interpolate_spec reached before

/-! ## The low-pass filter and the speed conversion (R128, R177) -/

/-- A quotient rounded toward zero lies between 0 and the dividend. -/
theorem tdiv_between_zero (n : Int) (d : Nat) : min 0 n ≤ n.tdiv d ∧ n.tdiv d ≤ max 0 n := by
  have shrinks := Int.natAbs_tdiv_le_natAbs n d
  rcases Int.le_total 0 n with nonneg | nonpos
  · have := Int.tdiv_nonneg nonneg (Int.natCast_nonneg d)
    omega
  · have mirrored := Int.tdiv_nonneg (Int.neg_nonneg_of_nonpos nonpos) (Int.natCast_nonneg d)
    rw [Int.neg_tdiv] at mirrored
    omega

/-- A quotient rounded toward zero is 0 where the dividend is nearer to 0 than the divisor. -/
theorem tdiv_eq_zero_of_abs_lt {n d : Int} (h : |n| < d) : n.tdiv d = 0 := by
  rw [Int.abs_eq_natAbs] at h
  have small : n.natAbs < d.natAbs := by omega
  rw [← Int.sign_eq_zero_iff_zero, Int.sign_tdiv, if_pos small]

/-- The filter step, exact: the sum needs no saturation (R128). -/
theorem lpStep_toInt (y x : Q) (div : Nat) :
    (lpStep y x div).toInt = y.toInt + (x.toInt - y.toInt).tdiv div := by
  have hy := q_range y
  have hx := q_range x
  have between := tdiv_between_zero (x.toInt - y.toInt) div
  exact ofInt16_toInt (by omega) (by omega)

/-- The default conversion at the duration 0 (R177). -/
theorem durToSpeed_zero {c : Cfg} {n : Nat} (form : c.speedFn = .reciprocal n) : durToSpeed c 0 = qMax := by
  unfold durToSpeed
  rw [form]
  rfl

/-- The default conversion at any other duration (R177). -/
theorem durToSpeed_toInt {c : Cfg} {n : Nat} {avg : Duration16} (form : c.speedFn = .reciprocal n)
    (nonzero : avg ≠ 0) : (durToSpeed c avg).toInt = min 32767 ((n / avg.toNat : Nat) : Int) := by
  unfold durToSpeed
  rw [form]
  dsimp only
  have nonneg : 0 ≤ ((n / avg.toNat : Nat) : Int) := Int.natCast_nonneg _
  rw [if_neg nonzero, sat16_toInt]
  omega

/-- Settles O60: the exact filter step, with the quotient between 0 and the difference; the conversion by cases. -/
theorem filterAndSpeedConversion : Obligations.FilterAndSpeedConversion := by
  refine ⟨fun y x div _ => ?_, fun c n avg form => ⟨fun zero => ?_, fun nonzero => ?_⟩⟩
  · have exactStep := lpStep_toInt y x div
    have between := tdiv_between_zero (x.toInt - y.toInt) div
    refine ⟨exactStep, by omega, by omega, ?_, fun near => BitVec.eq_of_toInt_eq ?_⟩
    · rintro rfl
      refine BitVec.eq_of_toInt_eq ?_
      rw [exactStep, Int.natCast_one, Int.tdiv_one]
      omega
    · rw [exactStep, tdiv_eq_zero_of_abs_lt near, Int.add_zero]
  · obtain rfl : avg = 0 := BitVec.eq_of_toNat_eq zero
    rw [durToSpeed_zero form]
    rfl
  · exact durToSpeed_toInt form fun zero => nonzero (zero ▸ rfl)

end Sys2Proof.Proofs.Values
end

section
/-! SUPPORT. The temperature step (O38) and the debounce counter (O40). -/

namespace Sys2Proof.Proofs.Monitors

open Sys2Proof.Machine Sys2Proof.Laws

/-! ## The temperature step (R127, R226 to R231) -/

/-- In range is from the first knot to the last, both included (R127). -/
theorem curveInRange_iff {first last : Knot} {rest init : List Knot} {x : Q}
    (ends : first :: rest = init ++ [last]) :
    curveInRange (first :: rest) x = true ↔ first.x.toInt ≤ x.toInt ∧ x.toInt ≤ last.x.toInt := by
  have final : (first :: rest).getLast (by simp) = last := by simp only [ends, List.getLast_append_singleton]
  unfold curveInRange
  dsimp only
  rw [final, Bool.and_eq_true, decide_eq_true_eq, decide_eq_true_eq]

/-- Each channel's filter and vote after the step: its own cells and its own analog channel decide (R226). -/
theorem tempStep_channel (v : MainView) {k : Fin 2} {ch : Fin 5} (h : ch.val = 3 + k.val) :
    ((tempStep v).tm.filt[k], (tempStep v).tm.shutoff[k]) =
      tempChannelNext v.cfg.temp[k] v.adc[ch] v.tm.filt[k] v.tm.shutoff[k] := by
  match k with
  | 0 =>
    obtain rfl : ch = 3 := Fin.ext h
    simp [tempStep, tempStepChannel, adcGet]
  | 1 =>
    obtain rfl : ch = 4 := Fin.ext h
    simp [tempStep, tempStepChannel, adcGet]

/-- Without a result a channel keeps its cells (R228). -/
theorem tempChannelNext_none (t : TempCfg) (filt : Q) (vote : Bool) :
    tempChannelNext t none filt vote = (filt, vote) := rfl

/-- A code outside the table is a wiring fault: the filter stands, the vote is 1 (R229). -/
theorem tempChannelNext_outside {t : TempCfg} {code : AdcCode} (h : curveInRange t.curve (codeToQ code) = false)
    (filt : Q) (vote : Bool) : tempChannelNext t (some code) filt vote = (filt, true) := by
  simp [tempChannelNext, h]

/-- A code in the table goes through the filter and the hysteresis (R230, R231). -/
theorem tempChannelNext_inside {t : TempCfg} {code : AdcCode} (h : curveInRange t.curve (codeToQ code) = true)
    (filt : Q) (vote : Bool) :
    tempChannelNext t (some code) filt vote =
      (lpStep filt (curveEval t.curve (codeToQ code)) t.lpDiv,
        hysteresis t (lpStep filt (curveEval t.curve (codeToQ code)) t.lpDiv) vote) := by
  simp [tempChannelNext, h]

/-- Above the high threshold the vote is 1 (R231). -/
theorem hysteresis_above {t : TempCfg} {filt : Q} (h : t.hi.toInt < filt.toInt) (vote : Bool) :
    hysteresis t filt vote = true := by
  simp [hysteresis, qLt, h]

/-- Below the low threshold, and not above the high one, the vote is 0 (R231). -/
theorem hysteresis_below {t : TempCfg} {filt : Q} (notAbove : filt.toInt ≤ t.hi.toInt)
    (h : filt.toInt < t.lo.toInt) (vote : Bool) : hysteresis t filt vote = false := by
  simp [hysteresis, qLt, Int.not_lt.mpr notAbove, h]

/-- Between the thresholds, the bounds included, the vote is kept (R231). -/
theorem hysteresis_between {t : TempCfg} {filt : Q} (notAbove : filt.toInt ≤ t.hi.toInt)
    (notBelow : t.lo.toInt ≤ filt.toInt) (vote : Bool) : hysteresis t filt vote = vote := by
  simp [hysteresis, qLt, Int.not_lt.mpr notAbove, Int.not_lt.mpr notBelow]

/-- Settles O38: the range by its ends, and each channel by the three cases of its result. -/
theorem temperatureHysteresis : Obligations.TemperatureHysteresis := by
  refine ⟨?_, fun v k ch analog => ?_⟩
  · rintro _ x first last rest init rfl ends
    exact curveInRange_iff ends
  · have cells := tempStep_channel v analog
    refine ⟨tempStep_frame v, fun absent => ?_, fun code present => ⟨fun outside => ?_, fun inside => ?_⟩⟩
    · rw [absent, tempChannelNext_none] at cells
      exact Prod.mk.inj cells
    · rw [present, tempChannelNext_outside outside] at cells
      exact Prod.mk.inj cells
    · rw [present, tempChannelNext_inside inside] at cells
      obtain ⟨filtered, vote⟩ := Prod.mk.inj cells
      rw [← filtered] at vote
      exact ⟨filtered, fun above => vote.trans (hysteresis_above above _),
        fun notAbove below => vote.trans (hysteresis_below notAbove below _),
        fun notAbove notBelow => vote.trans (hysteresis_between notAbove notBelow _)⟩

/-! ## The debounce counter (R129, R130) -/

/-- A fault adds the large step, up to the limit (R129). -/
theorem dbNext_fault (c : Cfg) (count : Nat) (sticky : Bool) :
    dbNext c count true sticky = min (count + c.dbInc) c.dbLimit := rfl

/-- In sticky mode a counter at its limit is kept without a fault (R129). -/
theorem dbNext_stuck {c : Cfg} {count : Nat} (atLimit : c.dbLimit ≤ count) : dbNext c count false true = count := by
  simp [dbNext, atLimit]

/-- Without a fault, and not stuck, the small step is taken off, never below 0 (R129). -/
theorem dbNext_healthy {c : Cfg} {count : Nat} {sticky : Bool} (free : sticky = false ∨ count < c.dbLimit) :
    dbNext c count false sticky = count - c.dbDec := by
  have notStuck : (sticky && decide (c.dbLimit ≤ count)) = false := by
    rw [Bool.and_eq_false_iff, decide_eq_false_iff_not, Nat.not_le]
    exact free
  simp [dbNext, notStuck]

/-- Settles O40: the debounce step and the trip write the counter alone, and the counter moves as `dbNext` says. -/
theorem debounceCounter : Obligations.DebounceCounter := by
  intro v sticky _
  refine ⟨?_, ?_, fun free => ?_, rfl, ?_⟩
  · rw [← dbNext_fault v.cfg v.sf.count sticky]
    rfl
  · rintro rfl atLimit
    unfold dbStep
    rw [dbNext_stuck atLimit.ge]
  · exact ⟨_, rfl, by rw [dbNext_healthy free]; omega⟩
  · exact decide_eq_true (Nat.le_refl v.cfg.dbLimit)

end Sys2Proof.Proofs.Monitors
end

section
/-! SUPPORT. Phase `MAINS` by its three cases (O27), and what an operation does to the MainsSync reference (O28). -/

namespace Sys2Proof.Proofs.Mains

open Sys2Proof.Machine Sys2Proof.Safety Sys2Proof.Laws Sys2Proof.Proofs.Cells

/-! ## The transition of a `MAINS` phase -/

/-- The transition the tracker finds in the present state: the sample of R151 against the cells (R152 to R155). -/
def transitionOf (s : State) : Option (MainsPhase × Instant16) :=
  mainsTransition s.cfg s.ms.phase s.ms.ref (nowOf s) (s.inp.mains && !s.ms.prevPin)

/-- The first edge, or a debounced one, starts the positive half-wave at the present instant (R153, R154). -/
theorem transitionOf_sensed {s : State} (h : sensedCrossing s) :
    transitionOf s = some (.positiveHalfwave, nowOf s) := by
  obtain ⟨⟨high, low⟩, unsynced | ⟨negative, spaced⟩⟩ := h
  · simp [transitionOf, mainsTransition, high, low, unsynced]
  · simp [transitionOf, mainsTransition, high, low, negative, spaced]

/-- An elapsed positive half-wave starts the negative one, one duration past the reference (R155). -/
theorem transitionOf_timed {s : State} (h : timedCrossing s) :
    transitionOf s = some (.negativeHalfwave, iAdd s.ms.ref s.cfg.halfWaveDur) := by
  obtain ⟨positive, elapsed⟩ := h
  simp [transitionOf, mainsTransition, positive, elapsed]

/-- Without a crossing there is no transition: what each phase waits for has not come (R153 to R156). -/
theorem transitionOf_none {s : State} (notSensed : ¬ sensedCrossing s) (notTimed : ¬ timedCrossing s) :
    transitionOf s = none := by
  unfold transitionOf
  cases phase : s.ms.phase with
  | unsynchronized => exact if_neg fun rise => notSensed ⟨by simpa using rise, .inl phase⟩
  | negativeHalfwave =>
    refine if_neg fun edge => ?_
    obtain ⟨rise, spaced⟩ := Bool.and_eq_true_iff.mp edge
    exact notSensed ⟨by simpa using rise, .inr ⟨phase, spaced⟩⟩
  | positiveHalfwave => exact if_neg fun elapsed => notTimed ⟨phase, elapsed⟩

/-! ## The cells after a `MAINS` phase -/

/-- A `MAINS` phase folds the clock and writes MainsSync's cells; nothing else (R151, R158). -/
theorem phaseMains_frame (s : State) :
    after phaseMains s = { folded s with ms := (after phaseMains s).ms } := by
  rw [phaseMains_spec]
  rfl

/-- What it leaves in them is the tracker's update with the present sample (R151, R158). -/
theorem phaseMains_ms (s : State) :
    (after phaseMains s).ms = mainsUpdate s.cfg s.ms s.inp.mains (nowOf s) := by
  rw [phaseMains_spec]
  rfl

/-- With a transition the cells are its phase and reference, the sample and the mark (R157, R158). -/
theorem phaseMains_ms_of_transition {s : State} {phase : MainsPhase} {ref : Instant16}
    (h : transitionOf s = some (phase, ref)) :
    (after phaseMains s).ms = { phase := phase, ref := ref, prevPin := s.inp.mains, transition := true } := by
  unfold transitionOf at h
  simp only [phaseMains_ms, mainsUpdate, h]

/-- Without one only the sample is kept and the mark is cleared (R152, R156). -/
theorem phaseMains_ms_of_no_transition {s : State} (h : transitionOf s = none) :
    (after phaseMains s).ms = { s.ms with prevPin := s.inp.mains, transition := false } := by
  unfold transitionOf at h
  simp only [phaseMains_ms, mainsUpdate, h]

/-- The present level is the next previous sample, with or without a transition (R152). -/
theorem phaseMains_prevPin (s : State) : (after phaseMains s).ms.prevPin = s.inp.mains := by
  cases h : transitionOf s with
  | none => rw [phaseMains_ms_of_no_transition h]
  | some next => rw [phaseMains_ms_of_transition h]

/-- Settles O27: the transition in each of the three cases, and the cells it leaves. -/
theorem mainsPhaseTracks : Obligations.MainsPhaseTracks := by
  intro s
  refine ⟨(after phaseMains s).ms, ?_, phaseMains_prevPin s, fun sensed => ?_, fun timed => ?_,
    fun notSensed notTimed => ?_⟩
  · rw [exec_mains, ← phaseMains_frame]
  · rw [phaseMains_ms_of_transition (transitionOf_sensed sensed)]
    exact ⟨rfl, rfl, rfl⟩
  · rw [phaseMains_ms_of_transition (transitionOf_timed timed)]
    exact ⟨rfl, rfl, rfl⟩
  · rw [phaseMains_ms_of_no_transition (transitionOf_none notSensed notTimed)]
    exact ⟨rfl, rfl, rfl⟩

/-! ## The reference -/

/-- A `MAINS` phase that moves the reference has a crossing, which says where to (R153 to R156). -/
theorem phaseMains_ref_cases {s : State} (moved : (after phaseMains s).ms.ref ≠ s.ms.ref) :
    (sensedCrossing s ∧ (after phaseMains s).ms.ref = nowOf s) ∨
      (timedCrossing s ∧ (after phaseMains s).ms.ref = s.ms.ref + s.cfg.halfWaveDur) := by
  by_cases sensed : sensedCrossing s
  · exact .inl ⟨sensed, by rw [phaseMains_ms_of_transition (transitionOf_sensed sensed)]⟩
  · by_cases timed : timedCrossing s
    · exact .inr ⟨timed, by rw [phaseMains_ms_of_transition (transitionOf_timed timed)]; rfl⟩
    · exact absurd (by rw [phaseMains_ms_of_no_transition (transitionOf_none sensed timed)]) moved

/-- No phase but `MAINS` writes MainsSync's cells (R20, R158). -/
theorem phaseProgram_ms {pc : Fin 7} (notMains : pc ≠ 1) (s : State) : (after (phaseProgram pc) s).ms = s.ms := by
  match pc with
  | 0 | 2 | 5 | 6 => rfl
  | 1 => exact absurd rfl notMains
  | 3 => exact phaseDispatch_ms s
  | 4 => exact phaseTriac_ms s

/-- All an operation can do to MainsSync's cells: a `MAINS` phase, a reset, or nothing (R20, R158, R371). -/
theorem exec_ms_cases {i : Instr} {s t : State} (h : exec i s = .next t) :
    (performs 1 i s ∧ t.ms = (after phaseMains s).ms) ∨ isReset i = true ∨ t.ms = s.ms := by
  cases exec_effect h with
  | phase pc _ performed result =>
    subst result
    by_cases hpc : pc = 1
    · subst hpc
      exact .inl ⟨performed, rfl⟩
    · exact .inr (.inr (phaseProgram_ms hpc s))
  | reset op => exact .inr (.inl op)
  | tacho _ result => exact .inr (.inr (by rw [result, tachoHandler_ms]))
  | pulse _ result => exact .inr (.inr (by rw [result, pulseHandler_ms]))
  | tick _ _ result | idle _ result | input _ _ _ _ result =>
    subst result
    exact .inr (.inr rfl)

/-- Settles O28: a reference that moves was moved by a reset or by a crossing of a `MAINS` phase. -/
theorem referenceAdvancesDebounced : Obligations.ReferenceAdvancesDebounced := by
  intro i s t h moved
  rcases exec_ms_cases h with ⟨mains, hms⟩ | reset | kept
  · rw [hms] at moved ⊢
    refine .inr ⟨mains, ?_⟩
    rcases phaseMains_ref_cases moved with
      ⟨⟨⟨high, low⟩, unsynced | ⟨negative, spaced⟩⟩, href⟩ | ⟨⟨positive, elapsed⟩, href⟩
    · exact .inl ⟨unsynced, high, low, href⟩
    · exact .inr (.inl ⟨negative, high, low, href, of_decide_eq_true spaced⟩)
    · exact .inr (.inr ⟨positive, href, of_decide_eq_true elapsed⟩)
  · exact .inl reset
  · exact absurd (congrArg MainsSync.ref kept) moved

end Sys2Proof.Proofs.Mains
end

section
/-! SUPPORT. The tachometer capture (O20) and the drain of phase `SPEED` by its four cases (O29). -/

namespace Sys2Proof.Proofs.Speed

open Sys2Proof.Machine Sys2Proof.Safety Sys2Proof.Laws Sys2Proof.Proofs.Scope

/-! ## The capture (R166, R167) -/

/-- A pending request on a running core is taken: the handler's update is the step's result (R166, R334). -/
theorem exec_irqTacho_of_pending {s : State} (pending : s.irq.tacho = true) (running : s.wd.halted = false) :
    exec .irqTacho s = .next (after (tachoHandler .irq) s) := by
  rw [exec_irqTacho, whenEnabled_next_iff]
  exact ⟨by simp [pending, running], rfl⟩

/-- Settles O20: the handler's one update, with the record empty and with it full. -/
theorem tachoCaptureKeepsOldest : Obligations.TachoCaptureKeepsOldest := by
  intro s pending running
  rw [exec_irqTacho_of_pending pending running, tachoHandler_spec]
  refine ⟨fun empty => ?_, fun full => ?_⟩
  · rw [empty]
    rfl
  · rw [full]
    rfl

/-! ## The filter (R172, R173) -/

/-- The filter's step leaves every cell but the filtered value. -/
theorem filterSpeed_frame (c : Cfg) (e : SpeedEstimator) :
    filterSpeed c e = { e with filt := (filterSpeed c e).filt } := by
  unfold filterSpeed
  split <;> rfl

/-- From the threshold on, the filtered value steps towards the speed of the window's average (R172, R173). -/
theorem filterSpeed_filt_of_le {c : Cfg} {e : SpeedEstimator} (confident : c.confThreshold ≤ e.conf) :
    (filterSpeed c e).filt = lpStep e.filt (durToSpeed c (windowAverage e.win)) c.speedLpDiv := by
  rw [filterSpeed, if_pos confident]

/-- Below the threshold the estimator stands (R173). -/
theorem filterSpeed_of_lt {c : Cfg} {e : SpeedEstimator} (unsure : e.conf < c.confThreshold) :
    filterSpeed c e = e :=
  if_neg (Nat.not_le_of_lt unsure)

/-! ## An accepted edge (R169 to R173) -/

/-- The edge's duration goes into the window at the index (R169, R170). -/
@[simp] theorem acceptEdge_win (c : Cfg) (e : SpeedEstimator) (ts : Instant16) :
    (acceptEdge c e ts).win = e.win.set e.widx (ts - e.lastEdge) := by
  rw [acceptEdge, filterSpeed_frame]
  rfl

/-- The index advances around the four slots (R170). -/
theorem acceptEdge_widx (c : Cfg) (e : SpeedEstimator) (ts : Instant16) :
    (acceptEdge c e ts).widx.val = (e.widx.val + 1) % 4 := by
  rw [acceptEdge, filterSpeed_frame]
  exact Fin.val_add e.widx 1

/-- Where the new confidence reaches the threshold, the filter takes the speed of the new window (R172, R173). -/
theorem acceptEdge_filt_of_le {c : Cfg} {e : SpeedEstimator} {ts : Instant16}
    (confident : c.confThreshold ≤ (acceptEdge c e ts).conf) :
    (acceptEdge c e ts).filt =
      lpStep e.filt (durToSpeed c (windowAverage (acceptEdge c e ts).win)) c.speedLpDiv := by
  rw [acceptEdge_conf] at confident
  rw [acceptEdge_win, acceptEdge, filterSpeed_filt_of_le confident]
  rfl

/-- Where it does not, the filter stands (R173). -/
theorem acceptEdge_filt_of_lt {c : Cfg} {e : SpeedEstimator} {ts : Instant16}
    (unsure : (acceptEdge c e ts).conf < c.confThreshold) : (acceptEdge c e ts).filt = e.filt := by
  rw [acceptEdge_conf] at unsure
  rw [acceptEdge, filterSpeed_of_lt unsure]

/-! ## The four cases of the phase (R168) -/

/-- An edge not older than the stored one is accepted and stored (R169, R174). -/
theorem drainEdge_of_accepted {c : Cfg} {e : SpeedEstimator} {ts : Instant16} (accepted : iGe ts e.lastEdge = true) :
    drainEdge c e ts = { acceptEdge c e ts with lastEdge := ts } := by
  simp only [drainEdge, if_pos accepted]

/-- An older edge is only stored (R174). -/
theorem drainEdge_of_older {c : Cfg} {e : SpeedEstimator} {ts : Instant16} (older : iGe ts e.lastEdge = false) :
    drainEdge c e ts = { e with lastEdge := ts } := by
  simp only [drainEdge, older, Bool.false_eq_true, if_false]

/-- A stored edge ahead of the clock costs all confidence (R175). -/
theorem checkStale_of_ahead {e : SpeedEstimator} {now : Instant16} (ahead : iGe now e.lastEdge = false) :
    checkStale e now = { e with conf := 0 } := by
  rw [checkStale, ahead, if_neg Bool.false_ne_true]

/-- A stored edge the clock has reached costs nothing (R175). -/
theorem checkStale_of_reached {e : SpeedEstimator} {now : Instant16} (reached : iGe now e.lastEdge = true) :
    checkStale e now = e :=
  if_pos reached

/-- With a full record the estimator drains its edge (R168). -/
theorem phaseSpeed_se_of_edge {s : State} (edge : s.cap.new = true) :
    (after phaseSpeed s).se = drainEdge s.cfg s.se s.cap.ts := by
  rw [phaseSpeed_se, if_pos edge]

/-- With an empty one it checks the stored edge against the present instant (R168, R175). -/
theorem phaseSpeed_se_of_no_edge {s : State} (noEdge : s.cap.new = false) :
    (after phaseSpeed s).se = checkStale s.se (nowOf s) := by
  rw [phaseSpeed_se, noEdge, if_neg Bool.false_ne_true]
  rfl

/-- A `SPEED` phase folds the clock, clears the capture mark and writes the estimator's cells; nothing else (R168). -/
theorem phaseSpeed_frame (s : State) :
    after phaseSpeed s =
      { folded s with cap := { s.cap with new := false }, se := (after phaseSpeed s).se } := by
  rw [phaseSpeed_spec]
  rfl

/-- Settles O29: the frame, then the estimator in each of the four cases. -/
theorem speedPhaseDrains : Obligations.SpeedPhaseDrains := by
  intro s
  refine ⟨(after phaseSpeed s).se, ?_, fun edge accepted => ?_, fun edge older => ?_, fun noEdge ahead => ?_,
    fun noEdge reached => ?_⟩
  · rw [exec_speed, ← phaseSpeed_frame]
  · rw [phaseSpeed_se_of_edge edge, drainEdge_of_accepted accepted]
    exact ⟨rfl, acceptEdge_win _ _ _, acceptEdge_widx _ _ _, acceptEdge_conf _ _ _, acceptEdge_filt_of_le,
      acceptEdge_filt_of_lt⟩
  · rw [phaseSpeed_se_of_edge edge, drainEdge_of_older older]
  · rw [phaseSpeed_se_of_no_edge noEdge, checkStale_of_ahead ahead]
  · rw [phaseSpeed_se_of_no_edge noEdge, checkStale_of_reached reached]

end Sys2Proof.Proofs.Speed
end

section
/-! SUPPORT. Phase `TRIAC` by its cases (O31) and the retrigger count it arms with (O34). -/

namespace Sys2Proof.Proofs.Triac

open Sys2Proof.Machine Sys2Proof.Safety Sys2Proof.Laws Sys2Proof.Proofs.Cells Sys2Proof.Proofs.Quiet

/-! ## The retrigger count (R192, R193) -/

/-- The count in the reference form (R193). -/
theorem pulseCount_reference {c : Cfg} {edgeZone extraMax : Nat}
    (form : c.pulseCountFn = .reference edgeZone extraMax) (o : Nat) :
    pulseCount c o =
      if edgeZone ≤ edgeDistance c.halfWaveDur.toNat o then 1
      else 1 + (edgeZone - edgeDistance c.halfWaveDur.toNat o) * extraMax / edgeZone := by
  unfold pulseCount
  rw [form]

/-- The count as a list of limits: one more pulse for each that lies above the distance (entry 3). -/
theorem pulseCount_steps {c : Cfg} {limits : List Nat} (form : c.pulseCountFn = .steps limits) (o : Nat) :
    pulseCount c o = 1 + limits.countP fun limit => decide (edgeDistance c.halfWaveDur.toNat o < limit) := by
  unfold pulseCount
  rw [form, List.countP_eq_length_filter]

/-- Within the half-wave the distance is to the nearer edge (R192). -/
theorem edgeDistance_of_le {halfWave o : Nat} (within : o ≤ halfWave) :
    edgeDistance halfWave o = min o (halfWave - o) := if_neg (Nat.not_lt_of_le within)

/-- R192 (b): an offset at least as near to an edge gets at least as many pulses, in either form of the function. -/
theorem pulseCount_le_of_nearer {c : Cfg} {a b : Nat}
    (nearer : edgeDistance c.halfWaveDur.toNat a ≤ edgeDistance c.halfWaveDur.toNat b) :
    pulseCount c b ≤ pulseCount c a := by
  cases form : c.pulseCountFn with
  | reference edgeZone extraMax =>
    by_cases far : edgeZone ≤ edgeDistance c.halfWaveDur.toNat b
    · rw [pulseCount_reference form b, if_pos far]
      exact one_le_pulseCount c a
    · rw [pulseCount_reference form a, pulseCount_reference form b, if_neg far, if_neg (by omega)]
      gcongr
  | steps limits =>
    rw [pulseCount_steps form, pulseCount_steps form]
    have more : ∀ limit ∈ limits, decide (edgeDistance c.halfWaveDur.toNat b < limit) = true →
        decide (edgeDistance c.halfWaveDur.toNat a < limit) = true := fun limit _ above =>
      decide_eq_true (nearer.trans_lt (of_decide_eq_true above))
    exact Nat.add_le_add_left (List.countP_mono_left more) 1

/-- Settles O34: the two laws from the form of the function, and the reference form read off it. -/
theorem pulseCountTapers : Obligations.PulseCountTapers := by
  refine fun c a b => ⟨one_le_pulseCount c a, fun admitted => pulseCount_le admitted a,
    fun aWithin bWithin nearer => pulseCount_le_of_nearer ?_, fun edgeZone extraMax d form hd => ?_⟩
  · rwa [edgeDistance_of_le aWithin, edgeDistance_of_le bWithin]
  · have distance : edgeDistance c.halfWaveDur.toNat a = d := hd.symm
    rw [pulseCount_reference form, distance]
    exact ⟨fun far => if_pos far, fun near => if_neg (Nat.not_le_of_lt near)⟩

/-! ## The phase (R186 to R191) -/

/-- The state in which `TRIAC` serves its trigger: as `triggerBase`, with the pending mark set (R188). -/
def triggerPending (s : State) : State := { triggerBase s with tr := { s.tr with pending := true } }

theorem triggerBase_of_transition {s : State} (h : s.ms.transition = true) :
    triggerBase s = cancelled (folded s) := if_pos h

theorem triggerBase_of_no_transition {s : State} (h : s.ms.transition = false) : triggerBase s = folded s := by
  rw [triggerBase, h, if_neg Bool.false_ne_true]

/-- With a trigger to serve, the start of the phase leaves it pending: marked now, or still marked (R188). -/
theorem startHalfWave_of_trigger {s : State} (h : s.ms.transition = true ∨ s.tr.pending = true) :
    after startHalfWave (folded s) = triggerPending s := by
  rw [startHalfWave_spec, triggerPending]
  cases transition : s.ms.transition with
  | true =>
    rw [triggerBase_of_transition transition]
    exact if_pos transition
  | false =>
    have pending : s.tr.pending = true := h.resolve_left (by simp [transition])
    have marked : { s.tr with pending := true } = s.tr := by rw [← pending]
    rw [triggerBase_of_no_transition transition, marked]
    exact if_neg (by simp [folded, transition])

/-- A served trigger is cancelled, armed or left, by its effective offset and its lead (R189 to R191). -/
theorem serveTrigger_spec (now : Instant16) (s : State) :
    after (serveTrigger now) s =
      if s.cfg.maxOffset.toNat < effectiveOffset s.tr.offset (iSub now s.ms.ref) then after cancelTrigger s
      else if effectiveOffset s.tr.offset (iSub now s.ms.ref) - (iSub now s.ms.ref).toNat ≤
          s.cfg.shortArmMax.toNat then
        after (armTrigger s.cfg s.ms.ref (effectiveOffset s.tr.offset (iSub now s.ms.ref))) s
      else s := by
  rcases serveTrigger_cases now s with ⟨never, h⟩ | ⟨reachable, near, h⟩ | ⟨reachable, far, h⟩
  · rw [h, if_pos never]
  · rw [h, if_neg (Nat.not_lt_of_le reachable), if_pos near]
  · rw [h, if_neg (Nat.not_lt_of_le reachable), if_neg (Nat.not_le_of_lt far)]

@[simp] theorem triggerPending_cfg (s : State) : (triggerPending s).cfg = s.cfg := by
  unfold triggerPending triggerBase
  split <;> rfl
@[simp] theorem triggerPending_ms (s : State) : (triggerPending s).ms = s.ms := by
  unfold triggerPending triggerBase
  split <;> rfl
@[simp] theorem triggerPending_clk (s : State) : (triggerPending s).clk = foldClock s.clk := by
  unfold triggerPending triggerBase
  split <;> rfl
@[simp] theorem triggerPending_tr (s : State) : (triggerPending s).tr = { s.tr with pending := true } := (rfl)

/-- `TRIAC` with a trigger to serve: never fire, arm, or look again (R189 to R191). -/
theorem phaseTriac_of_trigger {s : State} (serve : triggerToServe s) :
    after phaseTriac s =
      if s.cfg.maxOffset.toNat < effOf s then after cancelTrigger (triggerPending s)
      else if effOf s - elapsedOf s ≤ s.cfg.shortArmMax.toNat then
        after (armTrigger s.cfg s.ms.ref (effOf s)) (triggerPending s)
      else triggerPending s := by
  obtain ⟨on, trigger⟩ := serve
  rw [phaseTriac_folded, on, if_neg Bool.false_ne_true, startHalfWave_of_trigger trigger, triggerPending_tr,
    if_pos rfl, serveTrigger_spec, triggerPending_cfg, triggerPending_ms]
  rfl

/-- `TRIAC` with no trigger to serve only reads the clock (R186). -/
theorem phaseTriac_of_idle {s : State} (on : s.sys.primaryShutoff = false) (same : s.ms.transition = false)
    (idle : s.tr.pending = false) : after phaseTriac s = folded s := by
  have started : after startHalfWave (folded s) = folded s := by
    rw [startHalfWave_spec]
    exact if_neg (by simp [folded, same])
  rw [phaseTriac_folded, on, if_neg Bool.false_ne_true, started]
  exact if_neg (by simp [folded, idle])

/-- A cancelled trigger is the state `pt_cancel` leaves, with no pending mark (R187, R190). -/
theorem cancelTrigger_eq_cancelled (s : State) :
    after cancelTrigger s = { cancelled s with tr := { s.tr with pending := false } } := cancelTrigger_spec s

/-- Cancelled on the transition already or not, the trigger ends the same (R190, R195). -/
theorem cancelTrigger_triggerPending (s : State) :
    after cancelTrigger (triggerPending s) =
      { cancelled (folded s) with tr := { s.tr with pending := false } } := by
  rw [cancelTrigger_eq_cancelled]
  unfold triggerPending triggerBase
  split <;> rfl

/-- The compare value is the low byte of the absolute fire time (R191). -/
theorem fireTime_low (ref : Instant16) (eff : Nat) :
    (iAdd ref (BitVec.ofNat 16 eff)).extractLsb' 0 8 = BitVec.ofNat 8 (ref.toNat + eff) := by
  apply BitVec.eq_of_toNat_eq
  simp only [iAdd, BitVec.extractLsb'_toNat, BitVec.toNat_add, BitVec.toNat_ofNat, Nat.shiftRight_zero]
  omega

/-- An armed trigger is the state `pt_arm` leaves, with no pending mark (R191, R194). -/
theorem armTrigger_eq_armed (c : Cfg) (ref : Instant16) (eff : Nat) (s : State) :
    after (armTrigger c ref eff) s =
      { armed s (BitVec.ofNat 8 (ref.toNat + eff)) (BitVec.ofNat 8 (pulseCount c eff)) with
        tr := { s.tr with pending := false } } := by
  rw [armTrigger_spec, fireTime_low]
  rfl

/-- Settles O31: the phase in each of its five cases. -/
theorem triacPhaseSchedules : Obligations.TriacPhaseSchedules := by
  intro s
  rw [exec_triac]
  refine ⟨fun shutoff => ?_, fun on same idle => ?_, fun serve never => ?_, fun serve reachable near => ?_,
    fun serve reachable far => ?_⟩
  · rw [phaseTriac_of_shutoff shutoff, cancelTrigger_eq_cancelled]
    rfl
  · rw [phaseTriac_of_idle on same idle]
  · rw [phaseTriac_of_trigger serve, if_pos never, cancelTrigger_triggerPending]
  · rw [phaseTriac_of_trigger serve, if_neg (Nat.not_lt_of_le reachable), if_pos near, armTrigger_eq_armed]
    rfl
  · rw [phaseTriac_of_trigger serve, if_neg (Nat.not_lt_of_le reachable), if_neg (Nat.not_le_of_lt far)]
    rfl

end Sys2Proof.Proofs.Triac
end

section
/-! SUPPORT. The pulse timer: its handler (O21), the time of its next request (O22, O32) and its invariant (O35). -/

namespace Sys2Proof.Proofs.Pulse

open Sys2Proof.Machine Sys2Proof.Safety Sys2Proof.Laws Sys2Proof.Proofs.Cells Sys2Proof.Proofs.Quiet
  Sys2Proof.Proofs.Instants Sys2Proof.Proofs.Triac

/-! ## The handler (R197) -/

/-- The pulse handler runs exactly on a pending request of a running core (R197, R334). -/
theorem exec_irqPulse_next_iff {s t : State} :
    exec .irqPulse s = .next t ↔ s.irq.pt = true ∧ s.wd.halted = false ∧ after (pulseHandler .irq) s = t :=
  takeInterrupt_next_iff

/-- While pulses are left the count goes down by one (R131, R197). -/
theorem countDown_of_pos {n : Byte} (left : 1 ≤ n.toNat) : countDown n = n - 1 :=
  if_neg fun zero => by simp [zero] at left

/-- Settles O21: the handler's update in each phase, and the last clear told from the others by the count. -/
theorem pulseHandlerTogglesGate : Obligations.PulseHandlerTogglesGate := by
  intro s request running
  have taken : exec .irqPulse s = .next (after (pulseHandler .irq) s) :=
    exec_irqPulse_next_iff.mpr ⟨request, running, rfl⟩
  rw [taken]
  refine ⟨fun set => ?_, fun clear more => ?_, fun clear last => ?_⟩
  · rw [pulseHandler_gateSet _ s set]
    rfl
  · have left : s.pt.remaining - 1 ≠ 0 := by bv_omega
    rw [pulseHandler_gateClear _ s clear, countDown_of_pos (by omega), if_neg left]
    rfl
  · have noneLeft : s.pt.remaining - 1 = 0 := by bv_omega
    rw [pulseHandler_gateClear _ s clear, countDown_of_pos (by omega), noneLeft, if_pos rfl]

/-! ## The next request (R196) -/

/-- The number of ticks, 1 to 256, after which the counter next reaches the compare value (R196). -/
def ticksToMatch (s : State) : Nat := (s.pt.ocr - s.clk.tcnt - 1).toNat + 1

/-- A tick leaves the timer and the pins, and raises a request exactly on a match of the enabled timer (R310). -/
theorem exec_tick_pulse {s t : State} (h : exec .tick s = .next t) :
    t.pt = s.pt ∧ t.out = s.out ∧ t.clk.tcnt = s.clk.tcnt + 1 ∧
      (t.irq.pt = true ↔ s.irq.pt = true ∨ (s.pt.enabled = true ∧ ticksToMatch s = 1)) := by
  rw [exec_tick, whenEnabled_next_iff, tickBody_spec] at h
  obtain ⟨-, rfl⟩ := h
  have reached : s.clk.tcnt + 1 = s.pt.ocr ↔ ticksToMatch s = 1 := by
    unfold ticksToMatch
    bv_omega
  exact ⟨rfl, rfl, rfl, by rw [← reached]; simp⟩

/-- Before the match, a tick brings it one tick nearer. -/
theorem ticksToMatch_after_tick {s t : State} (timer : t.pt = s.pt) (counter : t.clk.tcnt = s.clk.tcnt + 1)
    (later : ticksToMatch s ≠ 1) : ticksToMatch t + 1 = ticksToMatch s := by
  unfold ticksToMatch at *
  rw [timer, counter]
  bv_omega

/-- The timer after `n` ticks: a request that was pending still is, and an enabled timer has made one exactly if its
match lies within the `n` ticks (R196). -/
theorem tickTimes_pulse {n : Nat} {s u : State} (h : tickTimes n s = .next u) :
    u.pt = s.pt ∧ u.out = s.out ∧
      (u.irq.pt = true ↔ s.irq.pt = true ∨ (s.pt.enabled = true ∧ ticksToMatch s ≤ n)) := by
  induction n generalizing s with
  | zero =>
    obtain rfl : s = u := Host.Outcome.next.inj h
    have ahead : ¬ ticksToMatch s ≤ 0 := Nat.not_succ_le_zero _
    exact ⟨rfl, rfl, by simp [ahead]⟩
  | succ n ih =>
    obtain ⟨t, first, others⟩ := tickTimes_succ_next h
    obtain ⟨pt₁, out₁, tcnt₁, irq₁⟩ := exec_tick_pulse first
    obtain ⟨pt, out, irq⟩ := ih others
    have within : ticksToMatch s = 1 ∨ ticksToMatch t ≤ n ↔ ticksToMatch s ≤ n + 1 := by
      have nearer := ticksToMatch_after_tick pt₁ tcnt₁
      omega
    exact ⟨pt.trans pt₁, out.trans out₁, by rw [irq, irq₁, pt₁, or_assoc, ← and_or_left, within]⟩

/-- From an enabled timer without a request, the request comes exactly at the match (R196). -/
theorem request_after_ticks {n lead : Nat} {s u : State} (h : tickTimes n s = .next u)
    (enabled : s.pt.enabled = true) (noRequest : s.irq.pt = false) (distance : ticksToMatch s = lead) :
    u.irq.pt = true ↔ lead ≤ n := by
  obtain ⟨-, -, irq⟩ := tickTimes_pulse h
  simp [irq, enabled, noRequest, distance]

/-- Settles O22: the handler leaves the timer enabled and one pulse width from its match. -/
theorem pulseLastsPulseWidth : Obligations.PulseLastsPulseWidth := by
  intro s t u n wide enabled set h ticks
  obtain ⟨-, -, rfl⟩ := exec_irqPulse_next_iff.mp h
  rw [pulseHandler_gateSet _ s set] at ticks
  obtain ⟨pt, out, -⟩ := tickTimes_pulse ticks
  refine ⟨request_after_ticks ticks enabled rfl ?_, by rw [out], by rw [pt]⟩
  unfold ticksToMatch iAdd
  bv_omega

/-- The counter is the low byte of the half-wave's start plus the time elapsed since (R116, R186). -/
theorem tcnt_eq_ref_add_elapsed (s : State) : s.clk.tcnt = BitVec.ofNat 8 (s.ms.ref.toNat + elapsedOf s) := by
  apply BitVec.eq_of_toNat_eq
  have counter : s.clk.tcnt.toNat < 256 := s.clk.tcnt.isLt
  have reference : s.ms.ref.toNat < 65536 := s.ms.ref.isLt
  have now := nowOf_toNat s
  rw [elapsedOf, BitVec.toNat_sub, BitVec.toNat_ofNat]
  omega

/-- The ticks to the match of a compare value `lead` past the counter's own time (R191). -/
theorem lead_toNat {start lead : Nat} (least : 1 ≤ lead) (most : lead ≤ 256) :
    (BitVec.ofNat 8 (start + lead) - BitVec.ofNat 8 start - 1).toNat + 1 = lead := by
  bv_omega

/-- The effective offset lies past the elapsed time (R189). -/
theorem elapsedOf_lt_effOf (s : State) : elapsedOf s < effOf s := Nat.le_max_right _ _

/-- The timer that `TRIAC` arms is as far from its match as the offset lies past the elapsed time (R191). -/
theorem ticksToMatch_of_armed {s : State} (near : effOf s - elapsedOf s ≤ 256) (c : Cfg) :
    ticksToMatch (after (armTrigger c s.ms.ref (effOf s)) (triggerPending s)) = effOf s - elapsedOf s := by
  have ahead := elapsedOf_lt_effOf s
  have fireTime : s.ms.ref.toNat + effOf s = s.ms.ref.toNat + elapsedOf s + (effOf s - elapsedOf s) := by omega
  have counter : (triggerPending s).clk.tcnt = BitVec.ofNat 8 (s.ms.ref.toNat + elapsedOf s) :=
    (congrArg Clock.tcnt (triggerPending_clk s)).trans (tcnt_eq_ref_add_elapsed s)
  rw [armTrigger_eq_armed, fireTime]
  unfold ticksToMatch armed
  dsimp only
  rw [counter]
  exact lead_toNat (by omega) near

/-- Settles O32: the arming leaves the timer enabled, without a request, and its match at the effective offset. -/
theorem armedTriggerFiresOnTime : Obligations.ArmedTriggerFiresOnTime := by
  intro s t u n short serve reachable near h ticks
  rw [exec_triac, phaseTriac_of_trigger serve, if_neg (Nat.not_lt_of_le reachable), if_pos near] at h
  cases h
  have fires : u.irq.pt = true ↔ effOf s - elapsedOf s ≤ n :=
    request_after_ticks ticks rfl rfl (ticksToMatch_of_armed (by omega) s.cfg)
  exact ⟨fires.trans (by omega), rfl, rfl⟩

/-! ## The invariant (R194, R197, R198) -/

/-- A quiet timer meets the invariant, whatever is pending. -/
theorem pulseEngineOk_of_timerQuiet {s : State} (quiet : timerQuiet s) : pulseEngineOk s := by
  obtain ⟨disabled, noRequest, clear⟩ := quiet
  simp [pulseEngineOk, disabled, noRequest, clear]

/-- A pending trigger waits with the timer quiet (R198). -/
theorem timerQuiet_of_pending {s : State} (ok : pulseEngineOk s) (pending : s.tr.pending = true) : timerQuiet s := by
  obtain ⟨requestEnabled, -, pendingDisabled, gateEnabled⟩ := ok
  have disabled := pendingDisabled pending
  exact ⟨disabled, by simpa [disabled] using requestEnabled, by simpa [disabled] using gateEnabled⟩

/-- The count a trigger is armed with is a byte that is not 0, under an admitted configuration (R9 item 4, R192). -/
theorem armedCount_pos {c : Cfg} (admitted : c.pulseCountOk = true) (eff : Nat) :
    1 ≤ (BitVec.ofNat 8 (pulseCount c eff)).toNat := by
  have least := one_le_pulseCount c eff
  have most := pulseCount_le admitted eff
  rw [BitVec.toNat_ofNat]
  omega

/-- A trigger armed from a clear gate meets the invariant (R194). -/
theorem armTrigger_pulseEngineOk {c : Cfg} {s : State} (admitted : c.pulseCountOk = true)
    (clear : s.out.gateN = true) (ref : Instant16) (eff : Nat) :
    pulseEngineOk (after (armTrigger c ref eff) s) := by
  rw [armTrigger_eq_armed]
  refine ⟨fun request => ?_, fun _ => armedCount_pos admitted eff, fun pending => ?_, fun set => ?_⟩
  · cases request
  · cases pending
  · cases clear.symm.trans set

/-- When a trigger is served the timer is quiet: cancelled on the transition, or pending all along (R188, R198). -/
theorem triggerPending_timerQuiet {s : State} (ok : pulseEngineOk s)
    (trigger : s.ms.transition = true ∨ s.tr.pending = true) : timerQuiet (triggerPending s) := by
  unfold triggerPending
  cases transition : s.ms.transition with
  | true =>
    rw [triggerBase_of_transition transition]
    exact ⟨rfl, rfl, rfl⟩
  | false =>
    rw [triggerBase_of_no_transition transition]
    have quiet : timerQuiet s := timerQuiet_of_pending ok (trigger.resolve_left (by simp [transition]))
    exact quiet

/-- A `TRIAC` phase keeps the invariant: it cancels, arms from a quiet timer, or leaves the timer (R186). -/
theorem phaseTriac_pulseEngineOk {s : State} (admitted : s.cfg.pulseCountOk = true) (ok : pulseEngineOk s) :
    pulseEngineOk (after phaseTriac s) := by
  cases shutoff : s.sys.primaryShutoff with
  | true =>
    rw [phaseTriac_of_shutoff shutoff]
    exact pulseEngineOk_of_timerQuiet (cancelTrigger_timerQuiet _)
  | false =>
    by_cases trigger : s.ms.transition = true ∨ s.tr.pending = true
    · have quiet := triggerPending_timerQuiet ok trigger
      have ⟨_, _, clear⟩ := quiet
      rw [phaseTriac_of_trigger ⟨shutoff, trigger⟩]
      split
      · exact pulseEngineOk_of_timerQuiet (cancelTrigger_timerQuiet _)
      · split
        · exact armTrigger_pulseEngineOk admitted clear _ _
        · exact pulseEngineOk_of_timerQuiet quiet
    · obtain ⟨same, idle⟩ := not_or.mp trigger
      rw [phaseTriac_of_idle shutoff (Bool.eq_false_of_not_eq_true same) (Bool.eq_false_of_not_eq_true idle)]
      exact ok

/-- No phase but `TRIAC` writes the pending mark (R20, R186). -/
theorem phaseProgram_pending {pc : Fin 7} (notTriac : pc ≠ 4) (s : State) :
    (after (phaseProgram pc) s).tr.pending = s.tr.pending := by
  match pc with
  | 0 | 1 | 2 | 5 | 6 => rfl
  | 3 => exact phaseDispatch_tr_pending s
  | 4 => exact absurd rfl notTriac

/-- Every phase keeps the invariant: `TRIAC` by its cases, the others touch none of its cells (R198). -/
theorem phaseProgram_pulseEngineOk (pc : Fin 7) {s : State} (admitted : s.cfg.pulseCountOk = true)
    (ok : pulseEngineOk s) : pulseEngineOk (after (phaseProgram pc) s) := by
  by_cases hpc : pc = 4
  · subst hpc
    exact phaseTriac_pulseEngineOk admitted ok
  · obtain ⟨hpt, hirq⟩ := phaseProgram_pt_irq hpc s
    rwa [pulseEngineOk, hpt, hirq, phaseProgram_pending hpc, phaseProgram_gateN hpc]

/-- A tick requests the handler only of an enabled timer (R196, R310). -/
theorem tickBody_pulseEngineOk {s : State} (ok : pulseEngineOk s) : pulseEngineOk (after tickBody s) := by
  obtain ⟨requestEnabled, rest⟩ := ok
  rw [tickBody_spec]
  refine ⟨fun request => ?_, rest⟩
  rcases Bool.or_eq_true_iff.mp request with pending | isMatch
  · exact requestEnabled pending
  · exact (Bool.and_eq_true_iff.mp isMatch).1

/-- A pulse handler that was requested keeps the invariant: the request says that the timer is enabled, so no trigger
is pending, and the handler disables it exactly when the last pulse is over (R197, R198). -/
theorem pulseHandler_pulseEngineOk (tok : CsToken .irq) {s : State} (request : s.irq.pt = true)
    (ok : pulseEngineOk s) : pulseEngineOk (after (pulseHandler tok) s) := by
  obtain ⟨requestEnabled, enabledLeft, pendingDisabled, -⟩ := ok
  have enabled := requestEnabled request
  have left := enabledLeft enabled
  have notPending : s.tr.pending = false := by simpa [enabled] using pendingDisabled
  cases phase : s.pt.phase with
  | gateSet =>
    rw [pulseHandler_gateSet tok s phase]
    simp [pulseEngineOk, enabled, left, notPending]
  | gateClear =>
    rw [pulseHandler_gateClear tok s phase]
    by_cases last : countDown s.pt.remaining = 0
    · rw [if_pos last]
      simp [pulseEngineOk]
    · have more : 1 ≤ (countDown s.pt.remaining).toNat := by bv_omega
      rw [if_neg last]
      simp [pulseEngineOk, more, notPending]

/-- Every operation keeps the invariant under an admitted pulse count (R194, R197, R198). -/
theorem exec_pulseEngineOk {i : Instr} {s t : State} (h : exec i s = .next t)
    (admitted : s.cfg.pulseCountOk = true) (ok : pulseEngineOk s) : pulseEngineOk t := by
  cases exec_effect h with
  | phase pc _ _ result =>
    subst result
    exact phaseProgram_pulseEngineOk pc admitted ok
  | tick _ _ result =>
    subst result
    exact tickBody_pulseEngineOk ok
  | tacho _ result =>
    rw [result, tachoHandler_spec]
    exact ok
  | pulse op result =>
    subst op result
    obtain ⟨request, -, -⟩ := exec_irqPulse_next_iff.mp h
    exact pulseHandler_pulseEngineOk _ request ok
  | reset _ result =>
    subst result
    exact pulseEngineOk_of_timerQuiet (resetCells_timerQuiet s)
  | idle _ result | input _ _ _ _ result =>
    subst result
    exact ok

/-- An admitted configuration has an admitted pulse count (R9 item 4). -/
theorem pulseCountOk_of_wf {c : Cfg} (h : c.wf = true) : c.pulseCountOk = true := by
  simp only [Cfg.wf, Bool.and_eq_true] at h
  tauto

/-- Settles O35: every operation keeps the invariant (`exec_pulseEngineOk`), and taking a word touches none of its
cells. -/
theorem pulseEngineInvariant : Obligations.PulseEngineInvariant := by
  intro s t ok h
  obtain ⟨wf, w, rest, i, -, -, hexec⟩ := step_next_iff.mp h
  exact exec_pulseEngineOk hexec (pulseCountOk_of_wf wf) ok

end Sys2Proof.Proofs.Pulse
end

section
/-! SUPPORT. The controller: its step (O36) and the anti-windup law, at the procedure and at phase `DISPATCH` (O37). -/

namespace Sys2Proof.Proofs.Control

open Sys2Proof.Machine Sys2Proof.Safety Sys2Proof.Laws

/-! ## The controller step (R212 to R218) -/

/-- Outside syncing the stored integral is the clamped sum, exact (R215). -/
theorem integralNext_toInt (c : Cfg) (i e y : Q) :
    (integralNext c i e y false).toInt =
      min (max (qadd i (qmul c.ki e)).toInt (curveEval c.ilimNegCurve y).toInt) (curveEval c.ilimPosCurve y).toInt := by
  have sumRange := q_range (qadd i (qmul c.ki e))
  have negRange := q_range (curveEval c.ilimNegCurve y)
  have posRange := q_range (curveEval c.ilimPosCurve y)
  exact ofInt16_toInt (by omega) (by omega)

/-- While syncing the integral is 0 (R218). -/
theorem controllerNext_i_of_syncing (c : Cfg) (k : Controller) (sp : Q) (speed : Option Q) :
    (controllerNext c k sp speed true).i = 0 := rfl

/-- Outside syncing the controller works with the measured speed (R212, R215). -/
theorem controllerNext_i_of_speed (c : Cfg) (k : Controller) (sp y : Q) :
    (controllerNext c k sp (some y) false).i = integralNext c k.i (qsub sp y) y false := rfl

/-- Settles O36: the step is `controllerNext`, at the synthetic speed while syncing and at the measured one otherwise,
with the clamp exact (`integralNext_toInt`). -/
theorem controllerStep : Obligations.ControllerStep := by
  intro sp speed syncing v measured
  refine ⟨controllerSpeed v.cfg sp speed syncing, controllerNext v.cfg v.ctl sp speed syncing, rfl, ?_, ?_,
    rfl, rfl⟩
  · rintro rfl
    exact ⟨rfl, controllerNext_i_of_syncing v.cfg v.ctl sp speed⟩
  · rintro rfl
    obtain ⟨y, rfl⟩ := Option.ne_none_iff_exists'.mp (measured rfl)
    exact ⟨rfl, integralNext_toInt v.cfg v.ctl.i (qsub sp y) y⟩

/-! ## The anti-windup law (R219) -/

/-- The two limits of an admitted configuration lie on their sides of 0, so they are in order (R9 item 8). -/
theorem integralLimits_ordered {c : Cfg} (admitted : c.wf = true) (y : Q) :
    (curveEval c.ilimNegCurve y).toInt ≤ (curveEval c.ilimPosCurve y).toInt := by
  simp only [Cfg.wf, Cfg.curvesOk, Cfg.integralLimitsOk, Bool.and_eq_true] at admitted
  have neg := curveEval_nonpos (c := c.ilimNegCurve) (by tauto) (by tauto) y
  have pos := curveEval_nonneg (c := c.ilimPosCurve) (by tauto) (by tauto) y
  omega

/-- Whatever the integral and the error were, the controller leaves the integral within the limits of the measured
speed (R215, R219). -/
theorem controllerNext_i_within_limits {c : Cfg} (admitted : c.wf = true) (k : Controller) (sp y : Q) :
    (curveEval c.ilimNegCurve y).toInt ≤ (controllerNext c k sp (some y) false).i.toInt ∧
      (controllerNext c k sp (some y) false).i.toInt ≤ (curveEval c.ilimPosCurve y).toInt := by
  have ordered := integralLimits_ordered admitted y
  rw [controllerNext_i_of_speed, integralNext_toInt]
  omega

/-! ## The control path of phase `DISPATCH` (R283, R287, R288) -/

/-- The control tick is due in the view exactly when it is due in the state (R283). -/
theorem hkDue_mainView_iff (s : State) : hkDue (nowOf s) (mainView s) = true ↔ controlTickDue s := by
  unfold hkDue hkArmedNow
  rw [Bool.and_eq_true, Bool.or_eq_true]
  rfl

/-- In `Syncing` and in `Running` the phase runs the control path, with the detector already updated (R283). -/
theorem phaseDispatch_of_inControlPath {s : State} (inPath : inControlPath s) :
    after phaseDispatch s =
      putMain (controlPath (nowOf s) (hkDue (nowOf s) (mainView s))
        (setArmed (detectorAfter s) (mainView s))).toMainCells (folded s) := by
  have path (due : Bool) {v : MainView} (state : v.sys.state = .syncing ∨ v.sys.state = .running) :
      dispatchState (nowOf s) due v = controlPath (nowOf s) due v := by
    unfold dispatchState
    rcases state with state | state <;> rw [state]
  have dispatched := path (hkDue (nowOf s) (mainView s)) (v := setArmed (detectorAfter s) (mainView s)) inPath
  rw [← dispatched]
  exact phaseDispatch_spec s

/-- The switch leaves the control path in `Syncing`, or in `Running` with a speed reading (R287). -/
theorem switchLoop_state {v : MainView} (inPath : v.sys.state = .syncing ∨ v.sys.state = .running) (sp : Q)
    (speed : Option Q) :
    (switchLoop sp speed v).sys.state = .syncing ∨
      (switchLoop sp speed v).sys.state = .running ∧ ∃ y, speed = some y := by
  unfold switchLoop
  split
  next => exact .inl rfl
  next stays =>
    split
    next enters =>
      obtain ⟨-, -, reading⟩ := enters
      exact .inr ⟨rfl, Option.ne_none_iff_exists'.mp reading⟩
    next =>
      refine inPath.imp_right fun running => ⟨running, Option.ne_none_iff_exists'.mp fun absent => ?_⟩
      exact stays ⟨running, .inr absent⟩

/-- The control path ends in the state that its switch chose (R287). -/
theorem controlPath_state (now : Instant16) (due : Bool) (v : MainView) :
    (controlPath now due v).sys.state = (switchLoop (setpoint v) (getSpeed v) v).sys.state := by
  unfold controlPath
  dsimp only
  rw [safetyStep_frame]
  cases due <;> rfl

/-- A due control tick runs the controller in the state that the switch chose (R288). -/
theorem controlPath_ctl_of_due (now : Instant16) (v : MainView) :
    (controlPath now true v).ctl =
      controllerNext v.cfg (switchLoop (setpoint v) (getSpeed v) v).ctl (setpoint v) (getSpeed v)
        (decide ((controlPath now true v).sys.state = .syncing)) := by
  rw [controlPath_state]
  unfold controlPath
  dsimp only
  rw [safetyStep_frame, switchLoop_frame]
  rfl

/-- The anti-windup law at the control path: a due tick leaves `Syncing` with the integral 0, or the integral within the
limits of a speed reading (R219). -/
theorem controlPath_i_within_limits {v : MainView} (admitted : v.cfg.wf = true)
    (inPath : v.sys.state = .syncing ∨ v.sys.state = .running) (now : Instant16) :
    (controlPath now true v).sys.state = .syncing ∧ (controlPath now true v).ctl.i = 0 ∨
      ∃ y, getSpeed v = some y ∧ (curveEval v.cfg.ilimNegCurve y).toInt ≤ (controlPath now true v).ctl.i.toInt ∧
        (controlPath now true v).ctl.i.toInt ≤ (curveEval v.cfg.ilimPosCurve y).toInt := by
  have switched := switchLoop_state inPath (setpoint v) (getSpeed v)
  rw [← controlPath_state now true v] at switched
  rw [controlPath_ctl_of_due]
  rcases switched with syncing | ⟨running, y, reading⟩
  · exact .inl ⟨syncing, by rw [syncing]; rfl⟩
  · rw [running, reading]
    exact .inr ⟨y, rfl, controllerNext_i_within_limits admitted _ _ y⟩

/-- Settles O37: the law of the controller (`controllerNext_i_within_limits`), and of the control path that a
`DISPATCH` phase runs. -/
theorem antiWindup : Obligations.AntiWindup := by
  refine ⟨fun sp y v admitted => controllerNext_i_within_limits admitted v.ctl sp y,
    fun sp speed v => controllerNext_i_of_syncing v.cfg v.ctl sp speed, fun s t admitted inPath due h => ?_⟩
  obtain rfl : after phaseDispatch s = t := Host.Outcome.next.inj h
  rw [phaseDispatch_of_inControlPath inPath, (hkDue_mainView_iff s).mpr due]
  exact controlPath_i_within_limits (v := setArmed (detectorAfter s) (mainView s)) admitted inPath (nowOf s)

end Sys2Proof.Proofs.Control
end

section
/-! SUPPORT. The safety monitor: the safety step (O39), and the sticky law with the hard-fault law (O41). -/

namespace Sys2Proof.Proofs.SafetyStep

open Sys2Proof.Machine Sys2Proof.Safety Sys2Proof.Laws Sys2Proof.Proofs.Scope Sys2Proof.Proofs.Cells
  Sys2Proof.Proofs.Control

/-! ## The stable setpoint (R246) -/

/-- A bound of the greatest sample is a bound of every sample. -/
theorem foldl_max_le_iff (l : List Q) (m b : Int) :
    l.foldl (fun m q => max m q.toInt) m ≤ b ↔ m ≤ b ∧ ∀ q ∈ l, q.toInt ≤ b := by
  induction l generalizing m with
  | nil => simp
  | cons q l ih => simp [ih, and_assoc]

/-- A bound of the least sample is a bound of every sample. -/
theorem le_foldl_min_iff (l : List Q) (m b : Int) :
    b ≤ l.foldl (fun m q => min m q.toInt) m ↔ b ≤ m ∧ ∀ q ∈ l, b ≤ q.toInt := by
  induction l generalizing m with
  | nil => simp
  | cons q l ih => simp [ih, and_assoc]

/-- A fact of every element of the history is one of every slot. -/
theorem forall_mem_hist_iff (hist : Vector Q 9) (P : Q → Prop) :
    (∀ q ∈ hist.toList, P q) ↔ ∀ i : Fin 9, P hist[i] := by
  simp only [Vector.mem_toList_iff, Vector.forall_mem_iff_forall_getElem, Fin.forall_iff]
  rfl

/-- The start value of the greatest sample is below every sample, so it does not count (R246). -/
theorem histMax_le_iff (hist : Vector Q 9) (b : Int) : histMax hist ≤ b ↔ ∀ i : Fin 9, hist[i].toInt ≤ b := by
  have start := (q_range hist[(0 : Fin 9)]).1
  unfold histMax
  rw [foldl_max_le_iff, forall_mem_hist_iff]
  exact and_iff_right_of_imp fun bound => start.trans (bound 0)

/-- The start value of the least sample is above every sample, so it does not count (R246). -/
theorem le_histMin_iff (hist : Vector Q 9) (b : Int) : b ≤ histMin hist ↔ ∀ i : Fin 9, b ≤ hist[i].toInt := by
  have start := (q_range hist[(0 : Fin 9)]).2
  unfold histMin
  rw [le_foldl_min_iff, forall_mem_hist_iff]
  exact and_iff_right_of_imp fun bound => (bound 0).trans start

/-- The spread is within a tolerance exactly when every two samples are (R246). -/
theorem spread_le_iff (hist : Vector Q 9) (tol : Int) :
    histMax hist - histMin hist ≤ tol ↔ ∀ i j : Fin 9, hist[i].toInt - hist[j].toInt ≤ tol := by
  calc histMax hist - histMin hist ≤ tol ↔ histMax hist ≤ tol + histMin hist := sub_le_iff_le_add
    _ ↔ ∀ i : Fin 9, hist[i].toInt ≤ tol + histMin hist := histMax_le_iff hist _
    _ ↔ ∀ i : Fin 9, hist[i].toInt - tol ≤ histMin hist := forall_congr' fun _ => sub_le_iff_le_add'.symm
    _ ↔ ∀ i j : Fin 9, hist[i].toInt - tol ≤ hist[j].toInt := forall_congr' fun _ => le_histMin_iff hist _
    _ ↔ ∀ i j : Fin 9, hist[i].toInt - hist[j].toInt ≤ tol :=
      forall_congr' fun _ => forall_congr' fun _ => sub_le_comm

/-- A speed deviation: a stable history, a speed above the activation, and a distance beyond the tolerance (R248). -/
theorem speedDeviation_eq_decide (v : MainView) (speed sp : Q) :
    speedDeviation v speed sp =
      decide ((∀ i j : Fin 9, v.sf.hist[i].toInt - v.sf.hist[j].toInt ≤ v.cfg.spStableTol.toInt) ∧
        v.cfg.devActivation.toInt < speed.toInt ∧ v.cfg.devTol.toInt < (qabs (qsub speed sp)).toInt) := by
  simp only [← spread_le_iff, speedDeviation, setpointStable, qLt, Bool.decide_and, Bool.and_assoc]

/-! ## The safety step (R242 to R250, R253) -/

/-- The missed-cadence factor has a source value, 5, and an admitted configuration keeps it (R8, R244). -/
theorem cadenceMissFactor_of_wf {c : Cfg} (h : c.wf = true) : c.cadenceMissFactor = 5 := by
  have values := sourceValuesOk_of_wf h
  simp only [Cfg.sourceValuesOk, Bool.and_eq_true, decide_eq_true_eq] at values
  tauto

/-- The bookkeeping of every call stores the crossing, and trips the counter where the mains is lost (R242). -/
theorem zeroCrossingCheck_spec (now : Instant16) (zc : Bool) (v : MainView) :
    zeroCrossingCheck now zc v =
      { v with sf := { v.sf with
          lastZc := if zc then now else v.sf.lastZc
          count := if mainsSyncLost (noteCrossing now zc v) now then v.cfg.dbLimit else v.sf.count } } := by
  unfold zeroCrossingCheck
  dsimp only
  split <;> rfl

/-- The bookkeeping leaves the instant of the last cycle, and so whether a cycle is due (R243). -/
theorem zeroCrossingCheck_due (now : Instant16) (zc : Bool) (v : MainView) :
    safetyCycleDue (zeroCrossingCheck now zc v) now = safetyCycleDue v now := by
  rw [zeroCrossingCheck_spec]
  rfl

/-- The bookkeeping leaves what an immediate fault is read from (R249). -/
theorem zeroCrossingCheck_immediateFault (now : Instant16) (zc : Bool) (v : MainView) :
    immediateFault (zeroCrossingCheck now zc v) (cadenceMissed (zeroCrossingCheck now zc v) now) =
      immediateFault v (cadenceMissed v now) := by
  rw [zeroCrossingCheck_spec]
  rfl

/-- The immediate faults of a cycle (R249). -/
theorem immediateFault_iff {v : MainView} {missed : Bool} :
    immediateFault v missed = true ↔ missed = true ∨ v.afeFailure = true ∨ v.rtfault = true := by
  simp only [immediateFault, Bool.or_eq_true, or_assoc]

/-- A cycle with an immediate fault trips (R249, R250). -/
theorem safetyCycle_of_fault {now : Instant16} {v : MainView}
    (fault : immediateFault v (cadenceMissed v now) = true) (sp speed : Q) :
    safetyCycle now sp speed v = dbTrip (pushSetpoint sp (setLastCheck now v)) := if_pos fault

/-- A cycle without an immediate fault takes the two debounce steps (R247, R248, R250). -/
theorem safetyCycle_of_no_fault {now : Instant16} {v : MainView}
    (noFault : immediateFault v (cadenceMissed v now) = false) (sp speed : Q) :
    safetyCycle now sp speed v =
      dbStep (speedDeviation (pushSetpoint sp (setLastCheck now v)) speed sp) true
        (dbStep (overspeed v speed) true (pushSetpoint sp (setLastCheck now v))) :=
  if_neg (Bool.eq_false_iff.mp noFault)

/-- What a cycle does to the monitor's cells, but for the counter (R243, R245). -/
theorem safetyCycle_sf (now : Instant16) (sp speed : Q) (v : MainView) :
    (safetyCycle now sp speed v).sf =
      { count := (safetyCycle now sp speed v).sf.count, lastCheck := now, lastZc := v.sf.lastZc,
        hist := v.sf.hist.set v.sf.hidx sp, hidx := v.sf.hidx + 1 } := by
  cases fault : immediateFault v (cadenceMissed v now)
  · rw [safetyCycle_of_no_fault fault]
    rfl
  · rw [safetyCycle_of_fault fault]
    rfl

/-- A call with a due cycle (R243). -/
theorem safetyStep_of_due {now : Instant16} {v : MainView} (due : safetyCycleDue v now = true) (sp speed : Q)
    (zc : Bool) : safetyStep now sp speed zc v = safetyCycle now sp speed (zeroCrossingCheck now zc v) :=
  if_pos ((zeroCrossingCheck_due now zc v).trans due)

/-- A call without a due cycle (R243). -/
theorem safetyStep_of_not_due {now : Instant16} {v : MainView} (notDue : safetyCycleDue v now = false) (sp speed : Q)
    (zc : Bool) : safetyStep now sp speed zc v = zeroCrossingCheck now zc v :=
  if_neg (by rw [zeroCrossingCheck_due, notDue]; exact Bool.false_ne_true)

/-- Every call stores the crossing, and the cycle leaves it (R242). -/
theorem safetyStep_lastZc (now : Instant16) (sp speed : Q) (zc : Bool) (v : MainView) :
    (safetyStep now sp speed zc v).sf.lastZc = if zc then now else v.sf.lastZc := by
  cases due : safetyCycleDue v now
  · rw [safetyStep_of_not_due due, zeroCrossingCheck_spec]
  · rw [safetyStep_of_due due, safetyCycle_sf, zeroCrossingCheck_spec]

/-- Settles O39: the step changes the monitor alone (`safetyStep_frame`); its cells are those of the bookkeeping, and
in a due cycle those of the trip or of the two debounce steps. -/
theorem safetyStepResult : Obligations.SafetyStepResult := by
  refine ⟨fun _ => cadenceMissFactor_of_wf, fun now sp speed zc v =>
    ⟨(safetyStep now sp speed zc v).sf, safetyStep_frame now sp speed zc v, safetyStep_lastZc now sp speed zc v,
      fun c0 start => ?_⟩⟩
  have checked : (zeroCrossingCheck now zc v).sf.count = c0 := by
    rw [start, safetyStep_lastZc, zeroCrossingCheck_spec]
    rfl
  refine ⟨fun (notDue : safetyCycleDue v now = false) => ?_, fun (due : safetyCycleDue v now = true) => ?_⟩
  · rw [safetyStep_of_not_due notDue, checked, zeroCrossingCheck_spec]
    exact ⟨rfl, rfl, rfl, rfl⟩
  · have sampled := safetyCycle_sf now sp speed (zeroCrossingCheck now zc v)
    rw [safetyStep_of_due due, sampled, ← checked]
    refine ⟨rfl, by rw [zeroCrossingCheck_spec], by rw [zeroCrossingCheck_spec]; exact Fin.val_add _ 1,
      fun fault => ?_, fun onTime sound intact => ?_⟩
    · have hard := (zeroCrossingCheck_immediateFault now zc v).trans (immediateFault_iff.mpr fault)
      rw [safetyCycle_of_fault hard, zeroCrossingCheck_spec]
      rfl
    · have noFault : immediateFault v (cadenceMissed v now) = false := by
        simp only [immediateFault, cadenceMissed, onTime, sound, intact, Bool.or_self]
      rw [safetyCycle_of_no_fault ((zeroCrossingCheck_immediateFault now zc v).trans noFault),
        speedDeviation_eq_decide, zeroCrossingCheck_spec]
      rfl

/-! ## A tripped counter stays tripped (R254) -/

/-- The trip reaches the limit (R130). -/
theorem dbTripped_dbTrip (v : MainView) : dbTripped (dbTrip v) = true := decide_eq_true (Nat.le_refl v.cfg.dbLimit)

/-- The sticky debounce step keeps a trip (R129, R254). -/
theorem dbTripped_dbStep {v : MainView} (tripped : dbTripped v = true) (fault : Bool) :
    dbTripped (dbStep fault true v) = true :=
  decide_eq_true (dbNext_sticky (of_decide_eq_true tripped) fault)

/-- A lost mains trips at any call (R242). -/
theorem zeroCrossingCheck_tripped_of_lost {now : Instant16} {zc : Bool} {v : MainView}
    (lost : mainsSyncLost (noteCrossing now zc v) now = true) : dbTripped (zeroCrossingCheck now zc v) = true := by
  unfold zeroCrossingCheck
  dsimp only
  rw [if_pos lost]
  exact dbTripped_dbTrip _

/-- The bookkeeping lowers no counter (R242, R254). -/
theorem zeroCrossingCheck_tripped {v : MainView} (tripped : dbTripped v = true) (now : Instant16) (zc : Bool) :
    dbTripped (zeroCrossingCheck now zc v) = true := by
  unfold zeroCrossingCheck
  dsimp only
  split
  · exact dbTripped_dbTrip _
  · exact tripped

/-- The sticky law of the safety cycle: it trips, or both its debounce steps are sticky (R250, R254). -/
theorem safetyCycle_tripped {v : MainView} (tripped : dbTripped v = true) (now : Instant16) (sp speed : Q) :
    dbTripped (safetyCycle now sp speed v) = true := by
  have sampled : dbTripped (pushSetpoint sp (setLastCheck now v)) = true := tripped
  cases fault : immediateFault v (cadenceMissed v now)
  · rw [safetyCycle_of_no_fault fault]
    exact dbTripped_dbStep (dbTripped_dbStep sampled _) _
  · rw [safetyCycle_of_fault fault]
    exact dbTripped_dbTrip _

/-- A trip by the bookkeeping outlasts the cycle of the same call (R242, R254). -/
theorem safetyStep_tripped_of_check {now : Instant16} {zc : Bool} {v : MainView}
    (checked : dbTripped (zeroCrossingCheck now zc v) = true) (sp speed : Q) :
    dbTripped (safetyStep now sp speed zc v) = true := by
  cases due : safetyCycleDue v now
  · rwa [safetyStep_of_not_due due]
  · rw [safetyStep_of_due due]
    exact safetyCycle_tripped checked now sp speed

/-- The sticky law of the safety step (R254). -/
theorem safetyStep_tripped {v : MainView} (tripped : dbTripped v = true) (now : Instant16) (sp speed : Q)
    (zc : Bool) : dbTripped (safetyStep now sp speed zc v) = true :=
  safetyStep_tripped_of_check (zeroCrossingCheck_tripped tripped now zc) sp speed

/-- A hard fault of a call with the crossing flag `zc`: an immediate fault in a due cycle, or a lost mains without a
crossing (R242, R249, R254). -/
def HardFault (now : Instant16) (zc : Bool) (v : MainView) : Prop :=
  (safetyCycleDue v now = true ∧ (v.afeFailure = true ∨ v.rtfault = true ∨ cadenceMissed v now = true)) ∨
    (zc = false ∧ mainsSyncLost v now = true)

/-- The hard-fault law of the safety step: the counter is at its limit whatever it held before (R254). -/
theorem safetyStep_tripped_of_hardFault {now : Instant16} {zc : Bool} {v : MainView} (fault : HardFault now zc v)
    (sp speed : Q) : dbTripped (safetyStep now sp speed zc v) = true := by
  rcases fault with ⟨due, immediate⟩ | ⟨rfl, lost⟩
  · have hard : immediateFault v (cadenceMissed v now) = true := immediateFault_iff.mpr (by tauto)
    rw [safetyStep_of_due due, safetyCycle_of_fault ((zeroCrossingCheck_immediateFault now zc v).trans hard)]
    exact dbTripped_dbTrip _
  · have stillLost : mainsSyncLost (noteCrossing now false v) now = true := lost
    exact safetyStep_tripped_of_check (zeroCrossingCheck_tripped_of_lost stillLost) sp speed

/-! ## Phase `DISPATCH` (R283, R286 to R289) -/

/-- The control path ends with the safety step and the votes, on a view whose monitor, inputs and mains cells are still
those at its start (R286 to R289). -/
theorem controlPath_monitors (now : Instant16) (due : Bool) (v : MainView) :
    ∃ w : MainView, w = { v with sys := w.sys, ctl := w.ctl, tm := w.tm, tr := w.tr } ∧
      controlPath now due v =
        decideShutoff (safetyStep now (setpoint v) ((getSpeed v).getD 0) w.ms.transition w) := by
  have switched := switchLoop_frame (setpoint v) (getSpeed v) v
  cases due with
  | false => exact ⟨switchLoop (setpoint v) (getSpeed v) v, by rw [switched], rfl⟩
  | true =>
    exact ⟨housekeeping (setpoint v) (getSpeed v) (switchLoop (setpoint v) (getSpeed v) v),
      by rw [housekeeping_frame, switched], rfl⟩

/-- The sticky law of the control path (R254). -/
theorem controlPath_tripped {v : MainView} (tripped : dbTripped v = true) (now : Instant16) (due : Bool) :
    dbTripped (controlPath now due v) = true := by
  obtain ⟨w, frame, runs⟩ := controlPath_monitors now due v
  have start : dbTripped w = true := by
    rw [frame]
    exact tripped
  rw [runs]
  exact safetyStep_tripped start now _ _ _

/-- The hard-fault law of the control path (R254). -/
theorem controlPath_tripped_of_hardFault {now : Instant16} {v : MainView} (fault : HardFault now v.ms.transition v)
    (due : Bool) : dbTripped (controlPath now due v) = true := by
  obtain ⟨w, frame, runs⟩ := controlPath_monitors now due v
  have start : HardFault now w.ms.transition w := by
    rw [frame]
    exact fault
  rw [runs]
  exact safetyStep_tripped_of_hardFault start _ _

/-- The control path ends with both votes at the OR of the monitors' (R289). -/
theorem controlPath_votes (now : Instant16) (due : Bool) (v : MainView) :
    (controlPath now due v).sys.primaryShutoff = shutoffDecision (controlPath now due v) ∧
      (controlPath now due v).sys.secondaryShutoff = shutoffDecision (controlPath now due v) := ⟨rfl, rfl⟩

/-- A tripped monitor votes for the shutoff (R251, R289). -/
theorem shutoffDecision_of_tripped {v : MainView} (tripped : dbTripped v = true) : shutoffDecision v = true := by
  rw [shutoffDecision, tripped, Bool.true_or]

/-- `Startup` leaves the debounce counter (R284). -/
theorem startupStep_tripped {v : MainView} (tripped : dbTripped v = true) (now : Instant16) :
    dbTripped (startupStep now v) = true := by
  unfold startupStep
  split <;> exact tripped

/-- The self-test leaves the debounce counter, in the hand-over too (R252, R270 to R272). -/
theorem postStep_tripped {v : MainView} (tripped : dbTripped v = true) (now : Instant16) :
    dbTripped (postStep now v) = true := by
  unfold postStep stageOutputs
  split <;> exact tripped

/-- The sticky law of the dispatch on the system state (R254, R283). -/
theorem dispatchAt_tripped {v : MainView} (tripped : dbTripped v = true) (now : Instant16) :
    dbTripped (dispatchAt now v) = true := by
  have start : dbTripped (setArmed (hkArmedNow v && !hkDue now v) v) = true := tripped
  unfold dispatchAt dispatchState
  split
  · exact startupStep_tripped start now
  · exact postStep_tripped start now
  · exact controlPath_tripped start now _
  · exact controlPath_tripped start now _

/-- The sticky law of phase `DISPATCH` (R254). -/
theorem phaseDispatch_tripped {s : State} (tripped : s.cfg.dbLimit ≤ s.sf.count) :
    s.cfg.dbLimit ≤ (after phaseDispatch s).sf.count := by
  have start : dbTripped (mainView s) = true := decide_eq_true tripped
  have kept := of_decide_eq_true (dispatchAt_tripped start (nowOf s))
  rw [dispatchAt_frame] at kept
  exact kept

/-- The hard-fault law of phase `DISPATCH` (R254, R289). -/
theorem phaseDispatch_tripped_of_hardFault {s : State} (inPath : inControlPath s)
    (fault : HardFault (nowOf s) s.ms.transition (mainView s)) :
    s.cfg.dbLimit ≤ (after phaseDispatch s).sf.count ∧ bothShutOff (after phaseDispatch s) := by
  have start : HardFault (nowOf s) s.ms.transition (setArmed (detectorAfter s) (mainView s)) := fault
  have tripped := controlPath_tripped_of_hardFault start (hkDue (nowOf s) (mainView s))
  have atLimit := of_decide_eq_true tripped
  rw [controlPath_frame] at atLimit
  obtain ⟨primary, secondary⟩ := controlPath_votes (nowOf s) (hkDue (nowOf s) (mainView s))
    (setArmed (detectorAfter s) (mainView s))
  rw [shutoffDecision_of_tripped tripped] at primary secondary
  rw [phaseDispatch_of_inControlPath inPath]
  exact ⟨atLimit, primary, secondary⟩

/-- All an operation can do to the safety monitor: a `DISPATCH` phase, a reset, or nothing (R20, R253, R371). -/
theorem exec_sf_cases {i : Instr} {s t : State} (h : exec i s = .next t) :
    (performs 3 i s ∧ t.sf = (after phaseDispatch s).sf) ∨ isReset i = true ∨ t.sf = s.sf := by
  cases exec_effect h with
  | phase pc _ performed result =>
    subst result
    by_cases hpc : pc = 3
    · subst hpc
      exact .inl ⟨performed, rfl⟩
    · exact .inr (.inr (phaseProgram_sf hpc s))
  | reset op => exact .inr (.inl op)
  | tacho _ result => exact .inr (.inr (by rw [result, tachoHandler_sf]))
  | pulse _ result => exact .inr (.inr (by rw [result, pulseHandler_sf]))
  | tick _ _ result | idle _ result | input _ _ _ _ result =>
    subst result
    exact .inr (.inr rfl)

/-- The sticky law of every operation but a reset (R254). -/
theorem exec_tripped {i : Instr} {s t : State} (h : exec i s = .next t) (noReset : isReset i = false)
    (tripped : s.cfg.dbLimit ≤ s.sf.count) : s.cfg.dbLimit ≤ t.sf.count := by
  rcases exec_sf_cases h with ⟨-, hsf⟩ | reset | hsf
  · rw [hsf]
    exact phaseDispatch_tripped tripped
  · exact absurd (noReset.symm.trans reset) Bool.false_ne_true
  · rwa [hsf]

/-- Settles O41: the sticky law of every operation (`exec_tripped`), and the hard-fault law of phase `DISPATCH`. -/
theorem stickyAndHardFaults : Obligations.StickyAndHardFaults := by
  refine ⟨fun _ _ _ => exec_tripped, fun s t inPath h fault => ?_⟩
  obtain rfl : after phaseDispatch s = t := Host.Outcome.next.inj h
  exact phaseDispatch_tripped_of_hardFault inPath fault

end Sys2Proof.Proofs.SafetyStep
end

section
/-! SUPPORT. The power-on self-test: its stage transitions and outputs (O43, O44), and the stage `Error` (O42). -/

namespace Sys2Proof.Proofs.PowerOnSelfTest

open Sys2Proof.Machine Sys2Proof.Safety Sys2Proof.Laws Sys2Proof.Proofs.Cells

/-! ## The next stage (R266 to R269, R272) -/

/-- The rotor is seen to spin exactly on a speed reading other than 0 (R267). -/
theorem spinning_iff (v : MainView) : spinning v = true ↔ ∃ y : Q, getSpeed v = some y ∧ y.toInt ≠ 0 := by
  unfold spinning
  cases getSpeed v with
  | none => simp
  | some y => simpa using (BitVec.toInt_inj (y := (0 : Q))).not.symm

/-- The failure condition of an assert sub-phase, as `stageNext` computes it (R267, R269). -/
theorem failing_iff (s : State) :
    (iGe (nowOf s) (iAdd s.post.t0 s.cfg.postSettle) && spinning (mainView s)) = true ↔
      iGe (nowOf s) (iAdd s.post.t0 s.cfg.postSettle) = true ∧
        ∃ y : Q, getSpeed (mainView s) = some y ∧ y.toInt ≠ 0 := by
  rw [Bool.and_eq_true, spinning_iff]

/-- `Error` and `Done` stand (R269, R270). -/
theorem stageNext_of_not_check {p : SelfTest} (noCheck : isCheckStage p.stage = false) (c : Cfg) (spin : Bool)
    (now : Instant16) : stageNext c p spin now = p := by
  rw [stageNext, noCheck, if_neg Bool.false_ne_true]

/-- A failure in an assert sub-phase leads to `Error` and keeps the stage's start (R267, R269). -/
theorem stageNext_of_failing {c : Cfg} {p : SelfTest} {spin : Bool} {now : Instant16}
    (check : isCheckStage p.stage = true) (failing : (iGe now (iAdd p.t0 c.postSettle) && spin) = true) :
    stageNext c p spin now = { p with stage := .error } := by
  rw [stageNext, if_pos check, if_pos failing]

/-- At the end of a stage without a failure the next stage begins now (R268). -/
theorem stageNext_of_end {c : Cfg} {p : SelfTest} {spin : Bool} {now : Instant16}
    (check : isCheckStage p.stage = true) (healthy : ¬ (iGe now (iAdd p.t0 c.postSettle) && spin) = true)
    (atEnd : iGe now (iAdd p.t0 (c.postSettle + c.postAssert)) = true) :
    stageNext c p spin now = { stage := nextStage p.stage, t0 := now } := by
  rw [stageNext, if_pos check, if_neg healthy, if_pos atEnd]

/-- Before the end of a stage without a failure the stage cells stand (R266, R272). -/
theorem stageNext_of_early {c : Cfg} {p : SelfTest} {spin : Bool} {now : Instant16}
    (healthy : ¬ (iGe now (iAdd p.t0 c.postSettle) && spin) = true)
    (early : iGe now (iAdd p.t0 (c.postSettle + c.postAssert)) = false) : stageNext c p spin now = p := by
  rw [stageNext, if_neg healthy, early, if_neg Bool.false_ne_true, ite_self]

/-! ## Phase `DISPATCH` in `SelfTest`, by the stage it reaches (R271, R272, R283) -/

/-- The stage cells that a self-test's step at the present clock leaves (R266 to R269). -/
def stageAfter (s : State) : SelfTest := stageNext s.cfg s.post (spinning (mainView s)) (nowOf s)

/-- In `SelfTest` the phase writes the stage cells and then the reached stage's outputs, with the detector already
updated (R272, R283). -/
theorem exec_dispatch_of_selfTest {s : State} (testing : s.sys.state = .selfTest) :
    exec .dispatch s = .next (putMain (stageOutputs (nowOf s)
      { setArmed (detectorAfter s) (mainView s) with post := stageAfter s }).toMainCells (folded s)) := by
  have dispatched {v : MainView} (state : v.sys.state = .selfTest) :
      dispatchState (nowOf s) (hkDue (nowOf s) (mainView s)) v = postStep (nowOf s) v := by
    rw [dispatchState, state]
  rw [exec_dispatch, phaseDispatch_spec]
  exact congrArg (fun v : MainView => Host.Outcome.next (putMain v.toMainCells (folded s)))
    (dispatched (v := setArmed (detectorAfter s) (mainView s)) testing)

section

variable {s : State} {p : SelfTest} (testing : s.sys.state = .selfTest) (reached : stageAfter s = p)

include testing reached

/-- `CheckIdle` votes to shut off both paths (R271). -/
theorem exec_dispatch_checkIdle (stage : p.stage = .checkIdle) :
    exec .dispatch s = .next { folded s with
      post := p
      sys := { s.sys with primaryShutoff := true, secondaryShutoff := true, hkArmed := detectorAfter s } } := by
  rw [exec_dispatch_of_selfTest testing, reached, stageOutputs, stage]
  rfl

/-- `CheckSecondaryPath` votes to shut off the secondary path alone and sets the test offset (R271). -/
theorem exec_dispatch_checkSecondaryPath (stage : p.stage = .checkSecondaryPath) :
    exec .dispatch s = .next { folded s with
      post := p
      sys := { s.sys with primaryShutoff := false, secondaryShutoff := true, hkArmed := detectorAfter s }
      tr := { s.tr with offset := s.cfg.postTriacOffset } } := by
  rw [exec_dispatch_of_selfTest testing, reached, stageOutputs, stage]
  rfl

/-- `CheckPrimaryPath` votes to shut off the primary path alone (R271). -/
theorem exec_dispatch_checkPrimaryPath (stage : p.stage = .checkPrimaryPath) :
    exec .dispatch s = .next { folded s with
      post := p
      sys := { s.sys with primaryShutoff := true, secondaryShutoff := false, hkArmed := detectorAfter s } } := by
  rw [exec_dispatch_of_selfTest testing, reached, stageOutputs, stage]
  rfl

/-- `Error` votes to shut off both paths (R269, R271). -/
theorem exec_dispatch_error (stage : p.stage = .error) :
    exec .dispatch s = .next { folded s with
      post := p
      sys := { s.sys with primaryShutoff := true, secondaryShutoff := true, hkArmed := detectorAfter s } } := by
  rw [exec_dispatch_of_selfTest testing, reached, stageOutputs, stage]
  rfl

/-- `Done` hands over to `Syncing` in the same call (R252, R270). -/
theorem exec_dispatch_done (stage : p.stage = .done) :
    exec .dispatch s = .next { folded s with
      post := p
      sys := { s.sys with state := .syncing, primaryShutoff := true, secondaryShutoff := true,
                          hkArmed := detectorAfter s }
      tr := { s.tr with offset := 0xFFFF }
      sf := { s.sf with lastCheck := nowOf s, lastZc := nowOf s }
      ctl := { s.ctl with i := 0 } } := by
  rw [exec_dispatch_of_selfTest testing, reached, stageOutputs, stage]
  rfl

end

/-- Settles O43: the next stage is reached now, and its outputs are written. -/
theorem selfTestAdvances : Obligations.SelfTestAdvances := by
  intro s testing atEnd healthy
  rw [← failing_iff] at healthy
  have reached (check : isCheckStage s.post.stage = true) :
      stageAfter s = { stage := nextStage s.post.stage, t0 := nowOf s } := stageNext_of_end check healthy atEnd
  refine ⟨fun stage => ?_, fun stage => ?_, fun stage => ?_⟩ <;> rw [stage] at reached
  · exact exec_dispatch_checkSecondaryPath testing (reached rfl) rfl
  · exact exec_dispatch_checkPrimaryPath testing (reached rfl) rfl
  · exact exec_dispatch_done testing (reached rfl) rfl

/-- Settles O44: the stage cells stand, and the stage's outputs are written. -/
theorem selfTestWaits : Obligations.SelfTestWaits := by
  intro s testing early healthy
  rw [← failing_iff] at healthy
  have stands : stageAfter s = s.post := stageNext_of_early healthy early
  exact ⟨exec_dispatch_checkIdle testing stands, exec_dispatch_checkSecondaryPath testing stands,
    exec_dispatch_checkPrimaryPath testing stands⟩

/-! ## The stage `Error` (R269, R273) -/

/-- In the stage `Error` the phase writes the detector and the votes (R269, R271). -/
theorem exec_dispatch_of_error {s : State} (testing : s.sys.state = .selfTest) (failed : s.post.stage = .error) :
    exec .dispatch s = .next { folded s with
      sys := { s.sys with primaryShutoff := true, secondaryShutoff := true, hkArmed := detectorAfter s } } := by
  have stands : stageAfter s = s.post := stageNext_of_not_check (congrArg isCheckStage failed) _ _ _
  exact exec_dispatch_error testing stands failed

/-- No phase but `DISPATCH` writes the system cells or the self-test's (R20, R283). -/
theorem phaseProgram_sys_post {pc : Fin 7} (notDispatch : pc ≠ 3) (s : State) :
    (after (phaseProgram pc) s).sys = s.sys ∧ (after (phaseProgram pc) s).post = s.post := by
  match pc with
  | 0 | 1 | 2 | 5 | 6 => exact ⟨rfl, rfl⟩
  | 3 => exact absurd rfl notDispatch
  | 4 => exact ⟨phaseTriac_sys s, phaseTriac_post s⟩

/-- All an operation can do to the system cells and the self-test's: a `DISPATCH` phase, a reset, or nothing (R20, R283,
R371). -/
theorem exec_sys_post_cases {i : Instr} {s t : State} (h : exec i s = .next t) :
    (performs 3 i s ∧ t.sys = (after phaseDispatch s).sys ∧ t.post = (after phaseDispatch s).post) ∨
      isReset i = true ∨ (t.sys = s.sys ∧ t.post = s.post) := by
  cases exec_effect h with
  | phase pc _ performed result =>
    subst result
    by_cases hpc : pc = 3
    · subst hpc
      exact .inl ⟨performed, rfl, rfl⟩
    · exact .inr (.inr (phaseProgram_sys_post hpc s))
  | reset op => exact .inr (.inl op)
  | tacho _ result => exact .inr (.inr ⟨by rw [result, tachoHandler_sys], by rw [result, tachoHandler_post]⟩)
  | pulse _ result => exact .inr (.inr ⟨by rw [result, pulseHandler_sys], by rw [result, pulseHandler_post]⟩)
  | tick _ _ result | idle _ result | input _ _ _ _ result =>
    subst result
    exact .inr (.inr ⟨rfl, rfl⟩)

/-- A failed self-test stays failed over every operation but a reset (R269, R273). -/
theorem exec_keeps_error {i : Instr} {s t : State} (h : exec i s = .next t) (noReset : isReset i = false)
    (testing : s.sys.state = .selfTest) (failed : s.post.stage = .error) :
    t.sys.state = .selfTest ∧ t.post = s.post := by
  rcases exec_sys_post_cases h with ⟨-, sys, post⟩ | reset | ⟨sys, post⟩
  · have dispatched := Host.Outcome.next.inj ((exec_dispatch s).symm.trans (exec_dispatch_of_error testing failed))
    rw [sys, post, dispatched]
    exact ⟨testing, rfl⟩
  · exact absurd (noReset.symm.trans reset) Bool.false_ne_true
  · exact ⟨sys ▸ testing, post⟩

/-- Settles O42: a reading in an assert sub-phase reaches `Error`, whose outputs are written, and no operation but a
reset leaves it. -/
theorem selfTestError : Obligations.SelfTestError := by
  refine ⟨fun s v testing stage asserting reading spins => ?_, fun _ => exec_dispatch_of_error,
    fun _ _ _ => exec_keeps_error⟩
  have check : isCheckStage s.post.stage = true := by
    rcases stage with stage | stage | stage <;> rw [stage] <;> rfl
  have failing := (failing_iff s).mpr ⟨asserting, v, reading, spins⟩
  exact exec_dispatch_error testing (stageNext_of_failing check failing) rfl

end Sys2Proof.Proofs.PowerOnSelfTest
end

section
/-! SUPPORT. The orchestrator: `MAIN_STEP` (O23), the phases `LOOPTIME`, `OUTPUT` and `WDT` (O24, O25), and phase
`DISPATCH` by the system state (O45 to O50). -/

namespace Sys2Proof.Proofs.Orchestrator

open Sys2Proof.Machine Sys2Proof.Safety Sys2Proof.Laws Sys2Proof.Proofs.Scope Sys2Proof.Proofs.Cells
  Sys2Proof.Proofs.Control Sys2Proof.Proofs.SafetyStep Sys2Proof.Proofs.PowerOnSelfTest

/-! ## The sequencer (R281) -/

/-- A phase alone performs the program of its code (R280; entry 10). -/
theorem exec_phaseAt (pc : Fin 7) (s : State) : exec (Instr.phaseAt pc) s = .next (after (phaseProgram pc) s) := by
  match pc with
  | 0 | 1 | 2 | 3 | 4 | 5 | 6 => rfl

/-- No phase writes the phase index (R36, R281). -/
theorem phaseProgram_pc (pc : Fin 7) (s : State) : (after (phaseProgram pc) s).ml.pc = s.ml.pc := by
  match pc with
  | 0 | 1 | 2 | 5 | 6 => rfl
  | 3 => exact congrArg MainLoop.pc (phaseDispatch_ml s)
  | 4 => exact congrArg MainLoop.pc (phaseTriac_ml s)

/-- `MAIN_STEP` of a running core: the phase, and then the index one on (R281). -/
theorem exec_mainStep_of_running {s : State} (running : s.wd.halted = false) :
    exec .mainStep s = .next (after advancePhase (after (phaseProgram s.ml.pc) s)) := by
  rw [exec_mainStep, performPhase_spec, running]
  rfl

/-- A reset operation that completes leaves the reset cells (R371). -/
theorem exec_of_isReset {i : Instr} {s t : State} (h : exec i s = .next t) (reset : isReset i = true) :
    t = resetCells s := by
  cases i with
  | por => exact (Host.Outcome.next.inj h).symm
  | wdtReset => exact (whenEnabled_next_iff.mp h).2.symm
  | _ => cases reset

/-- Only `MAIN_STEP` and a reset write the phase index: a phase alone does not, and no other agent has access to it
(R36, R281). -/
theorem exec_pc {i : Instr} {s t : State} (h : exec i s = .next t) (noStep : i ≠ .mainStep)
    (noReset : isReset i = false) : t.ml.pc = s.ml.pc := by
  cases exec_effect h with
  | phase pc _ performed =>
    obtain rfl : i = Instr.phaseAt pc := performed.resolve_left fun ⟨op, _⟩ => noStep op
    rw [← Host.Outcome.next.inj ((exec_phaseAt pc s).symm.trans h)]
    exact phaseProgram_pc pc s
  | tacho _ result => rw [result, tachoHandler_ml]
  | pulse _ result => rw [result, pulseHandler_ml]
  | reset op => cases noReset.symm.trans op
  | tick _ _ result | idle _ result | input _ _ _ _ result =>
    subst result
    rfl

/-- Settles O23: the step is the phase and the advance, and the operations that could write the index are named by
`exec_pc`. -/
theorem mainStepPerformsPhase : Obligations.MainStepPerformsPhase := by
  refine ⟨fun s => ⟨fun running => ?_, fun halted => ?_⟩, fun i s t h noStep => ⟨fun reset => ?_, exec_pc h noStep⟩⟩
  · refine ⟨_, (after (phaseProgram s.ml.pc) s).ml.pc + 1, exec_phaseAt s.ml.pc s,
      exec_mainStep_of_running running, ?_⟩
    rw [phaseProgram_pc]
    exact Fin.val_add s.ml.pc 1
  · rw [exec_mainStep, halted]
    rfl
  · rw [exec_of_isReset h reset, resetCells_ml]
    rfl

/-! ## The plain phases (R282, R290, R291) -/

/-- Settles O24: the phase is one update (`phaseLooptime_spec`). -/
theorem looptimeMeasures : Obligations.LooptimeMeasures := by
  intro s
  rw [exec_looptime, phaseLooptime_spec]
  rfl

/-- Settles O25: each of the two phases is one update (`phaseOutput_spec`, `phaseWdt_spec`). -/
theorem outputAndPoke : Obligations.OutputAndPoke := by
  intro s
  rw [exec_output, exec_wdt, phaseOutput_spec, phaseWdt_spec]
  exact ⟨rfl, rfl⟩

/-! ## The control-tick detector (R283) -/

/-- The view on which `DISPATCH` dispatches: the cells with the detector already updated (R283). -/
def armedView (s : State) : MainView := setArmed (detectorAfter s) (mainView s)

/-- `DISPATCH` is the dispatch on that view (R283). -/
theorem phaseDispatch_eq (s : State) :
    after phaseDispatch s =
      putMain (dispatchState (nowOf s) (hkDue (nowOf s) (mainView s)) (armedView s)).toMainCells (folded s) :=
  phaseDispatch_spec s

/-- What `exec` says of a phase `DISPATCH`, said of the phase. -/
theorem phaseDispatch_of_exec {s t : State} (h : exec .dispatch s = .next t) : after phaseDispatch s = t :=
  Host.Outcome.next.inj ((exec_dispatch s).symm.trans h)

/-- The instant of `Startup` and the detector's mark stand between two views. -/
def SameDetector (v w : MainView) : Prop := w.sys.t0 = v.sys.t0 ∧ w.sys.hkArmed = v.sys.hkArmed

/-- `Startup` writes neither (R284). -/
theorem startupStep_sameDetector (now : Instant16) (v : MainView) : SameDetector v (startupStep now v) := by
  unfold startupStep
  split <;> exact ⟨rfl, rfl⟩

/-- The self-test writes neither (R271). -/
theorem postStep_sameDetector (now : Instant16) (v : MainView) : SameDetector v (postStep now v) := by
  unfold postStep stageOutputs
  split <;> exact ⟨rfl, rfl⟩

/-- The system cells after the control path: the state that the switch chose and the two votes (R287, R289). -/
theorem controlPath_sys (now : Instant16) (due : Bool) (v : MainView) :
    (controlPath now due v).sys =
      { v.sys with
        state := (switchLoop (setpoint v) (getSpeed v) v).sys.state
        primaryShutoff := shutoffDecision (controlPath now due v)
        secondaryShutoff := shutoffDecision (controlPath now due v) } := by
  have votes : (controlPath now due v).sys =
      { (controlPath now due v).sys with
        primaryShutoff := shutoffDecision (controlPath now due v)
        secondaryShutoff := shutoffDecision (controlPath now due v) } := rfl
  have detector : SameDetector v (controlPath now due v) := by
    unfold controlPath decideShutoff SameDetector
    dsimp only
    rw [safetyStep_frame]
    cases due <;> (rw [switchLoop_frame]; exact ⟨rfl, rfl⟩)
  obtain ⟨t0, hkArmed⟩ := detector
  rw [votes]
  dsimp only
  rw [controlPath_state, t0, hkArmed]

/-- No branch of the dispatch writes the detector: it is updated before (R283). -/
theorem dispatchState_sameDetector (now : Instant16) (due : Bool) (v : MainView) :
    SameDetector v (dispatchState now due v) := by
  unfold dispatchState
  split
  · exact startupStep_sameDetector now v
  · exact postStep_sameDetector now v
  · rw [SameDetector, controlPath_sys]
    exact ⟨rfl, rfl⟩
  · rw [SameDetector, controlPath_sys]
    exact ⟨rfl, rfl⟩

/-- The detector is armed afterwards exactly if it was armed or is now, and the tick is not due (R283). -/
theorem detectorAfter_iff (s : State) :
    detectorAfter s = true ↔ (s.sys.hkArmed = true ∨ s.ms.transition = true) ∧ ¬ controlTickDue s := by
  have armed : hkArmedNow (mainView s) = true ↔ s.sys.hkArmed = true ∨ s.ms.transition = true := Bool.or_eq_true_iff
  rw [detectorAfter, Bool.and_eq_true, armed, Bool.not_eq_true', ← Bool.not_eq_true, hkDue_mainView_iff]

/-- The control path leaves the self-test's cells (R268, R283). -/
theorem phaseDispatch_post_of_inControlPath {s : State} (inPath : inControlPath s) :
    (after phaseDispatch s).post = s.post := by
  rw [phaseDispatch_of_inControlPath inPath, controlPath_frame]
  rfl

/-- Settles O45: the frame of the phase, and the detector that no branch writes after its update. -/
theorem dispatchDetector : Obligations.DispatchDetector := by
  intro s
  obtain ⟨t0, hkArmed⟩ :=
    dispatchState_sameDetector (nowOf s) (hkDue (nowOf s) (mainView s)) (armedView s)
  refine ⟨after phaseDispatch s, exec_dispatch s, phaseDispatch_frame s, ?_, ?_,
    phaseDispatch_post_of_inControlPath, detectorAfter_iff s⟩
  · rw [phaseDispatch_eq]
    exact t0
  · rw [phaseDispatch_eq]
    exact hkArmed

/-! ## `Startup` (R284) -/

/-- The startup delay is over at the next `DISPATCH` (R284). -/
def delayOver (s : State) : Bool := iGe (nowOf s) (iAdd s.sys.t0 s.cfg.startupDelay)

/-- In `Startup` the phase votes for both shutoffs, and starts the self-test once the delay is over (R284). -/
theorem exec_dispatch_of_startup {s : State} (starting : s.sys.state = .startup) :
    exec .dispatch s = .next (putMain (if delayOver s then
        startSelfTest (nowOf s) (setVotes true true (armedView s))
      else setVotes true true (armedView s)).toMainCells (folded s)) := by
  have state : (armedView s).sys.state = .startup := starting
  rw [exec_dispatch, phaseDispatch_eq, dispatchState, state]
  rfl

/-- Settles O46: the two cases of the delay. -/
theorem dispatchStartup : Obligations.DispatchStartup := by
  refine fun s starting => ⟨fun elapsed => ?_, fun waiting => ?_⟩
  · have elapsed : delayOver s = true := elapsed
    rw [exec_dispatch_of_startup starting, if_pos elapsed]
    rfl
  · have waiting : ¬ delayOver s = true := Bool.eq_false_iff.mp waiting
    rw [exec_dispatch_of_startup starting, if_neg waiting]
    rfl

/-! ## The switch between `Syncing` and `Running` (R287) -/

/-- A raw code as the argument of a curve is its number (R286). -/
theorem codeToQ_eq_ofNat (code : AdcCode) : codeToQ code = BitVec.ofNat 16 code.toNat :=
  (BitVec.ofNat_toNat 16 code).symm

/-- Without a result the setpoint is 0 (R286). -/
theorem setpoint_of_none {v : MainView} (h : v.adc[0] = none) : setpoint v = 0 := by
  have channel : adcGet 0 v = none := h
  rw [setpoint, channel]

/-- With a result the setpoint is its value on the setpoint curve (R286). -/
theorem setpoint_of_some {v : MainView} {code : AdcCode} (h : v.adc[0] = some code) :
    setpoint v = curveEval v.cfg.setpointCurve (BitVec.ofNat 16 code.toNat) := by
  have channel : adcGet 0 v = some code := h
  rw [setpoint, channel, ← codeToQ_eq_ofNat]

/-- The condition of `Running` on the two inputs of the switch; `runCondition` is it at a state's own (R287). -/
def RunsAt (c : Cfg) (sp : Q) (speed : Option Q) : Prop := c.spRunThreshold.toInt ≤ sp.toInt ∧ speed ≠ none

/-- The comparison that enters `Running`, in integers (R287). -/
theorem reached_iff_runsAt {c : Cfg} {sp : Q} {speed : Option Q} :
    (qLt sp c.spRunThreshold = false ∧ speed ≠ none) ↔ RunsAt c sp speed := by
  simp [RunsAt, qLt]

/-- The comparison that leaves `Running` is its negation (R287). -/
theorem missed_iff_not_runsAt {c : Cfg} {sp : Q} {speed : Option Q} :
    (qLt sp c.spRunThreshold = true ∨ speed = none) ↔ ¬ RunsAt c sp speed := by
  rw [← reached_iff_runsAt, not_and_or, Bool.not_eq_false, not_not]

section

variable {v : MainView} {sp : Q} {speed : Option Q}

/-- With the condition the switch goes to, or stays in, `Running` (R287). -/
theorem switchLoop_of_runs (inPath : v.sys.state = .syncing ∨ v.sys.state = .running)
    (runs : RunsAt v.cfg sp speed) : switchLoop sp speed v = setSystemState .running v := by
  rw [switchLoop, if_neg fun ⟨_, stops⟩ => missed_iff_not_runsAt.mp stops runs]
  rcases inPath with syncing | running
  · rw [if_pos ⟨syncing, reached_iff_runsAt.mpr runs⟩]
  · have stays : setSystemState .running v = v := by rw [setSystemState, ← running]
    rw [stays, running, if_neg fun ⟨syncing, _⟩ => by cases syncing]

/-- Without it `Running` falls back to `Syncing` with the integral cleared (R287). -/
theorem switchLoop_of_fallback (running : v.sys.state = .running) (stops : ¬ RunsAt v.cfg sp speed) :
    switchLoop sp speed v = clearIntegral (setSystemState .syncing v) :=
  if_pos ⟨running, missed_iff_not_runsAt.mpr stops⟩

/-- Without it `Syncing` stands (R287). -/
theorem switchLoop_of_waiting (syncing : v.sys.state = .syncing) (stops : ¬ RunsAt v.cfg sp speed) :
    switchLoop sp speed v = v := by
  have notRunning : ¬ v.sys.state = .running := by rw [syncing]; decide
  rw [switchLoop, if_neg fun ⟨running, _⟩ => notRunning running,
    if_neg fun ⟨_, runs⟩ => stops (reached_iff_runsAt.mp runs)]

/-- Without it the switch ends in `Syncing` (R287). -/
theorem switchLoop_state_of_stops (inPath : v.sys.state = .syncing ∨ v.sys.state = .running)
    (stops : ¬ RunsAt v.cfg sp speed) : (switchLoop sp speed v).sys.state = .syncing := by
  rcases inPath with syncing | running
  · rwa [switchLoop_of_waiting syncing stops]
  · rw [switchLoop_of_fallback running stops]
    rfl

/-- The switch leaves the controller, or clears the integral in a fallback (R287). -/
theorem switchLoop_ctl (inPath : v.sys.state = .syncing ∨ v.sys.state = .running) :
    (switchLoop sp speed v).ctl = v.ctl ∨
      (switchLoop sp speed v).ctl = { v.ctl with i := 0 } ∧ v.sys.state = .running ∧ ¬ RunsAt v.cfg sp speed := by
  by_cases runs : RunsAt v.cfg sp speed
  · exact .inl (by rw [switchLoop_of_runs inPath runs, setSystemState_ctl])
  · rcases inPath with syncing | running
    · exact .inl (by rw [switchLoop_of_waiting syncing runs])
    · exact .inr ⟨by rw [switchLoop_of_fallback running runs]; rfl, running, runs⟩

/-- While syncing the controller step does not read the old integral (R218). -/
theorem controllerNext_of_syncing (c : Cfg) (k : Controller) (i : Q) :
    controllerNext c { k with i := i } sp speed true = controllerNext c k sp speed true := by
  simp only [controllerNext, integralNext, if_true]

/-- The controller step after the switch is the one before it: a fallback clears the integral, and the step then runs
in `Syncing`, where the old integral is not read (R218, R287). -/
theorem controllerNext_switchLoop (inPath : v.sys.state = .syncing ∨ v.sys.state = .running) :
    controllerNext v.cfg (switchLoop sp speed v).ctl sp speed
        (decide ((switchLoop sp speed v).sys.state = .syncing)) =
      controllerNext v.cfg v.ctl sp speed (decide ((switchLoop sp speed v).sys.state = .syncing)) := by
  rcases switchLoop_ctl (sp := sp) (speed := speed) inPath with same | ⟨cleared, -, stops⟩
  · rw [same]
  · rw [cleared, switchLoop_state_of_stops inPath stops, decide_eq_true rfl, controllerNext_of_syncing]

end

/-! ## The cells after the control path (R286 to R289) -/

/-! The detector is no input of the control path (R283). -/

@[simp] theorem setpoint_armedView (s : State) : setpoint (armedView s) = setpoint (mainView s) := (rfl)
@[simp] theorem getSpeed_armedView (s : State) : getSpeed (armedView s) = getSpeed (mainView s) := (rfl)
@[simp] theorem armedView_cfg (s : State) : (armedView s).cfg = s.cfg := (rfl)
@[simp] theorem armedView_ms (s : State) : (armedView s).ms = s.ms := (rfl)
@[simp] theorem armedView_tr (s : State) : (armedView s).tr = s.tr := (rfl)
@[simp] theorem armedView_ctl (s : State) : (armedView s).ctl = s.ctl := (rfl)
@[simp] theorem armedView_tm (s : State) : (armedView s).tm = s.tm := (rfl)
@[simp] theorem tempStep_setArmed_tm (b : Bool) (v : MainView) : (tempStep (setArmed b v)).tm = (tempStep v).tm := (rfl)

/-- A control tick that is not due, in the view (R283). -/
theorem hkDue_of_not_due {s : State} (notDue : ¬ controlTickDue s) : hkDue (nowOf s) (mainView s) = false :=
  Bool.eq_false_iff.mpr (mt (hkDue_mainView_iff s).mp notDue)

/-- The cells that the control path of the next `DISPATCH` phase leaves (R286 to R289). -/
def controlled (s : State) : MainView := controlPath (nowOf s) (hkDue (nowOf s) (mainView s)) (armedView s)

/-- In `Syncing` and in `Running` the phase leaves those cells (R283). -/
theorem phaseDispatch_eq_controlled {s : State} (inPath : inControlPath s) :
    after phaseDispatch s = putMain (controlled s).toMainCells (folded s) := phaseDispatch_of_inControlPath inPath

/-- The state is the one that the switch chose (R287). -/
theorem controlled_state (s : State) :
    (controlled s).sys.state =
      (switchLoop (setpoint (mainView s)) (getSpeed (mainView s)) (armedView s)).sys.state :=
  controlPath_state _ _ _

/-- With the condition of `Running` the phase ends there (R287). -/
theorem phaseDispatch_state_of_runs {s : State} (inPath : inControlPath s) (runs : runCondition s) :
    (after phaseDispatch s).sys.state = .running := by
  rw [phaseDispatch_eq_controlled inPath, putMain_sys, controlled_state,
    switchLoop_of_runs (v := armedView s) inPath runs, setSystemState_sys]

/-- Without it the control path ends in `Syncing` (R287). -/
theorem controlled_state_of_stops {s : State} (inPath : inControlPath s) (stops : ¬ runCondition s) :
    (controlled s).sys.state = .syncing := by
  rw [controlled_state, switchLoop_state_of_stops (v := armedView s) inPath stops]

/-- Without it the phase ends in `Syncing` (R287). -/
theorem phaseDispatch_state_of_stops {s : State} (inPath : inControlPath s) (stops : ¬ runCondition s) :
    (after phaseDispatch s).sys.state = .syncing := by
  rw [phaseDispatch_eq_controlled inPath, putMain_sys, controlled_state_of_stops inPath stops]

/-- The temperature cells: stepped on a due tick (R288). -/
theorem controlPath_tm (now : Instant16) (due : Bool) (v : MainView) :
    (controlPath now due v).tm = if due then (tempStep v).tm else v.tm := by
  unfold controlPath
  dsimp only
  rw [safetyStep_frame, switchLoop_frame]
  cases due <;> rfl

/-- Without a due tick the controller is as the switch leaves it (R288). -/
theorem controlPath_ctl_of_not_due (now : Instant16) (v : MainView) :
    (controlPath now false v).ctl = (switchLoop (setpoint v) (getSpeed v) v).ctl := by
  unfold controlPath
  dsimp only
  rw [safetyStep_frame]
  rfl

/-- The trigger offset: converted from the controller's output on a due tick (R220, R288). -/
theorem controlPath_offset (now : Instant16) (due : Bool) (v : MainView) :
    (controlPath now due v).tr.offset =
      if due then curveEval v.cfg.trigCurve (controlPath now due v).ctl.out else v.tr.offset := by
  unfold controlPath
  dsimp only
  rw [safetyStep_frame, switchLoop_frame]
  cases due <;> rfl

/-- On a due tick the controller steps in the state reached, from the cells the phase began with (R288). -/
theorem controlled_ctl_of_due {s : State} (inPath : inControlPath s) (due : controlTickDue s) :
    (controlled s).ctl =
      controllerNext s.cfg s.ctl (setpoint (mainView s)) (getSpeed (mainView s))
        (decide ((controlled s).sys.state = .syncing)) := by
  have stepped := controllerNext_switchLoop (v := armedView s) (sp := setpoint (mainView s))
    (speed := getSpeed (mainView s)) inPath
  rw [controlled_state, controlled, (hkDue_mainView_iff s).mpr due, controlPath_ctl_of_due, controlPath_state]
  simpa using stepped

/-- Without a due tick the controller is as the switch leaves it (R288). -/
theorem controlled_ctl_of_not_due {s : State} (notDue : ¬ controlTickDue s) :
    (controlled s).ctl = (switchLoop (setpoint (mainView s)) (getSpeed (mainView s)) (armedView s)).ctl := by
  rw [controlled, hkDue_of_not_due notDue, controlPath_ctl_of_not_due,
    setpoint_armedView, getSpeed_armedView]

/-- A fallback leaves the integral 0: cleared by the switch, and again by a due tick (R218, R287). -/
theorem controlled_i_of_fallback {s : State} (running : s.sys.state = .running) (stops : ¬ runCondition s) :
    (controlled s).ctl.i = 0 := by
  have inPath : inControlPath s := .inr running
  by_cases due : controlTickDue s
  · rw [controlled_ctl_of_due inPath due, controlled_state_of_stops inPath stops, decide_eq_true rfl,
      controllerNext_i_of_syncing]
  · rw [controlled_ctl_of_not_due due, switchLoop_of_fallback (v := armedView s) running stops, clearIntegral_ctl]

/-- Settles O47: the setpoint by its two cases, and the state reached by the condition of `Running`. -/
theorem runningIsFunctionOfInputs : Obligations.RunningIsFunctionOfInputs := by
  refine ⟨fun s => ⟨fun absent => setpoint_of_none absent, fun _ present => setpoint_of_some present⟩,
    fun s inPath => ⟨after phaseDispatch s, exec_dispatch s, phaseDispatch_state_of_runs inPath, fun stops =>
      ⟨phaseDispatch_state_of_stops inPath stops, fun running => ?_⟩⟩⟩
  rw [phaseDispatch_eq_controlled inPath, putMain_ctl]
  exact controlled_i_of_fallback running stops

/-- Settles O48: a due tick runs its three steps on the cells the phase began with (`controlled_ctl_of_due`); without
it only the switch writes one of their cells. -/
theorem controlTick : Obligations.ControlTick := by
  refine fun s inPath => ⟨after phaseDispatch s, exec_dispatch s, ?_⟩
  rw [phaseDispatch_eq_controlled inPath, putMain_tm, putMain_ctl, putMain_sys, putMain_tr]
  refine ⟨fun due => ⟨?_, controlled_ctl_of_due inPath due, ?_⟩, fun notDue => ⟨?_, ?_, ?_⟩⟩
  · rw [controlled, (hkDue_mainView_iff s).mpr due, controlPath_tm, if_pos rfl, armedView, tempStep_setArmed_tm]
  · rw [controlled, (hkDue_mainView_iff s).mpr due, controlPath_offset, if_pos rfl, armedView_cfg]
  · rw [controlled, hkDue_of_not_due notDue, controlPath_tm,
      if_neg Bool.false_ne_true, armedView_tm]
  · rw [controlled, hkDue_of_not_due notDue, controlPath_offset,
      if_neg Bool.false_ne_true, armedView_tr]
  · rw [controlled_ctl_of_not_due notDue]
    rcases switchLoop_ctl (v := armedView s) inPath with same | ⟨cleared, running, stops⟩
    · rw [same]
      exact ⟨rfl, rfl, .inl rfl⟩
    · rw [cleared]
      exact ⟨rfl, rfl, .inr ⟨rfl, running, stops⟩⟩

/-! ## The shutoff decision (R289) -/

/-- A view with the cells that the control path writes before the monitor runs, taken from `w` (R287, R288). -/
def withControlCells (w v : MainView) : MainView := { v with sys := w.sys, ctl := w.ctl, tm := w.tm, tr := w.tr }

/-! The monitor neither reads nor writes those cells (R242 to R250, R253). -/

theorem zeroCrossingCheck_withControlCells (now : Instant16) (zc : Bool) (w v : MainView) :
    zeroCrossingCheck now zc (withControlCells w v) = withControlCells w (zeroCrossingCheck now zc v) := by
  rw [zeroCrossingCheck_spec, zeroCrossingCheck_spec]
  rfl

theorem safetyCycle_withControlCells (now : Instant16) (sp speed : Q) (w v : MainView) :
    safetyCycle now sp speed (withControlCells w v) = withControlCells w (safetyCycle now sp speed v) := by
  unfold safetyCycle
  dsimp only
  rw [apply_ite (withControlCells w)]
  rfl

theorem safetyStep_withControlCells (now : Instant16) (sp speed : Q) (zc : Bool) (w v : MainView) :
    safetyStep now sp speed zc (withControlCells w v) = withControlCells w (safetyStep now sp speed zc v) := by
  unfold safetyStep
  dsimp only
  rw [apply_ite (withControlCells w), zeroCrossingCheck_withControlCells, safetyCycle_withControlCells]
  rfl

/-- The monitor's cells after the control path are those of a safety step on the view at its start (R289). -/
theorem controlPath_sf (now : Instant16) (due : Bool) (v : MainView) :
    (controlPath now due v).sf = (safetyStep now (setpoint v) ((getSpeed v).getD 0) v.ms.transition v).sf := by
  obtain ⟨w, frame, runs⟩ := controlPath_monitors now due v
  have transition : w.ms.transition = v.ms.transition := by rw [frame]
  have written : w = withControlCells w v := frame
  rw [runs, transition, written, safetyStep_withControlCells]
  rfl

/-- The detector is no input of the monitor either. -/
theorem safetyStep_setArmed_sf (now : Instant16) (sp speed : Q) (zc b : Bool) (v : MainView) :
    (safetyStep now sp speed zc (setArmed b v)).sf = (safetyStep now sp speed zc v).sf :=
  congrArg (·.sf) (safetyStep_withControlCells now sp speed zc (setArmed b v) v)

/-- The shutoff decision is the OR of the monitor's verdict and, where configured, the temperature vote (R232,
R251, R289). -/
theorem shutoffDecision_iff (v : MainView) :
    shutoffDecision v = true ↔ v.cfg.dbLimit ≤ v.sf.count ∨
      (v.cfg.tempInSafetyPath = true ∧ (v.tm.shutoff[0] = true ∨ v.tm.shutoff[1] = true)) := by
  simp only [shutoffDecision, dbTripped, tempVote, Bool.or_eq_true, Bool.and_eq_true, decide_eq_true_eq]

/-- Settles O49: the monitor's step (`controlPath_sf`), and the decision that both votes take (`controlPath_sys`). -/
theorem shutoffIsOrOfVotes : Obligations.ShutoffIsOrOfVotes := by
  refine fun s inPath => ⟨after phaseDispatch s, exec_dispatch s, ?_⟩
  obtain ⟨primary, secondary⟩ :=
    controlPath_votes (nowOf s) (hkDue (nowOf s) (mainView s)) (armedView s)
  have config : (controlled s).cfg = s.cfg := by rw [controlled, controlPath_frame, armedView_cfg]
  rw [phaseDispatch_eq_controlled inPath, putMain_sf, putMain_sys, putMain_tm]
  refine ⟨?_, primary.trans secondary.symm, ?_⟩
  · rw [controlled, controlPath_sf, setpoint_armedView, getSpeed_armedView, armedView_ms, armedView,
      safetyStep_setArmed_sf]
  · rw [← config, ← shutoffDecision_iff]
    exact Bool.coe_iff_coe.mpr primary

/-! ## The edges of the system state machine (R292) -/

/-- From `Startup` the phase stays, or enters `SelfTest` with the delay over (R284). -/
theorem phaseDispatch_state_of_startup {s : State} (starting : s.sys.state = .startup) :
    (after phaseDispatch s).sys.state = if delayOver s then .selfTest else .startup := by
  rw [phaseDispatch_of_exec (exec_dispatch_of_startup starting), putMain_sys]
  split
  · rfl
  · exact starting

/-- The outputs of a stage leave the system state, but for the hand-over of `Done` (R270, R271). -/
theorem stageOutputs_state (now : Instant16) (v : MainView) :
    (stageOutputs now v).sys.state = if v.post.stage = .done then .syncing else v.sys.state := by
  cases stage : v.post.stage <;> rw [stageOutputs, stage] <;> rfl

/-- From `SelfTest` the phase stays, or enters `Syncing` where it leaves the stage `Done` (R270). -/
theorem phaseDispatch_state_of_selfTest {s : State} (testing : s.sys.state = .selfTest) :
    (after phaseDispatch s).post = stageAfter s ∧
      (after phaseDispatch s).sys.state = if (stageAfter s).stage = .done then .syncing else .selfTest := by
  rw [phaseDispatch_of_exec (exec_dispatch_of_selfTest testing), putMain_sys,
    putMain_post, stageOutputs_state, stageOutputs_frame]
  exact ⟨rfl, by rw [← testing]; rfl⟩

/-- The edges that a `DISPATCH` phase can take from `s` to `t` (R284, R270, R287). -/
def DispatchEdge (s t : State) : Prop :=
  (s.sys.state = .startup ∧ t.sys.state = .selfTest ∧
      iGe (nowOf s) (iAdd s.sys.t0 s.cfg.startupDelay) = true) ∨
    (s.sys.state = .selfTest ∧ t.sys.state = .syncing ∧ t.post.stage = .done) ∨
    (s.sys.state = .syncing ∧ t.sys.state = .running ∧ runCondition s) ∨
    (s.sys.state = .running ∧ t.sys.state = .syncing ∧ ¬ runCondition s)

/-- A phase that moves the system state takes one of the edges, by the branch it dispatches to (R283, R292). -/
theorem phaseDispatch_edge {s : State} (moved : (after phaseDispatch s).sys.state ≠ s.sys.state) :
    DispatchEdge s (after phaseDispatch s) := by
  cases state : s.sys.state with
  | startup =>
    have reached := phaseDispatch_state_of_startup state
    by_cases elapsed : delayOver s = true
    · exact .inl ⟨state, by rwa [if_pos elapsed] at reached, elapsed⟩
    · exact absurd (by rw [reached, if_neg elapsed, state]) moved
  | selfTest =>
    obtain ⟨post, reached⟩ := phaseDispatch_state_of_selfTest state
    by_cases passed : (stageAfter s).stage = .done
    · exact .inr (.inl ⟨state, by rwa [if_pos passed] at reached, by rwa [post]⟩)
    · exact absurd (by rw [reached, if_neg passed, state]) moved
  | syncing =>
    by_cases runs : runCondition s
    · exact .inr (.inr (.inl ⟨state, phaseDispatch_state_of_runs (.inl state) runs, runs⟩))
    · exact absurd (by rw [phaseDispatch_state_of_stops (.inl state) runs, state]) moved
  | running =>
    by_cases runs : runCondition s
    · exact absurd (by rw [phaseDispatch_state_of_runs (.inr state) runs, state]) moved
    · exact .inr (.inr (.inr ⟨state, phaseDispatch_state_of_stops (.inr state) runs, runs⟩))

/-- Settles O50: only a reset and a `DISPATCH` phase write the system state (`exec_sys_post_cases`), and the phase by
its edges. -/
theorem systemStateEdges : Obligations.SystemStateEdges := by
  intro i s t h moved
  rcases exec_sys_post_cases h with ⟨performed, sys, post⟩ | reset | ⟨sys, -⟩
  · have edge := phaseDispatch_edge (s := s) (by rwa [← sys])
    rw [DispatchEdge, ← sys, ← post] at edge
    exact .inr ⟨performed, edge⟩
  · rw [exec_of_isReset h reset]
    exact .inl ⟨reset, rfl⟩
  · exact absurd (congrArg SystemCells.state sys) moved

end Sys2Proof.Proofs.Orchestrator
end

section
/-! SUPPORT. What holds the outputs off: before the first path check (O51), under a sticky fault (O52, O53), and right
after reset (O16, O55). -/

namespace Sys2Proof.Proofs.HeldOff

open Sys2Proof.Machine Sys2Proof.Safety Sys2Proof.Laws Sys2Proof.Proofs.Cells Sys2Proof.Proofs.Quiet
  Sys2Proof.Proofs.Pulse Sys2Proof.Proofs.SafetyStep Sys2Proof.Proofs.PowerOnSelfTest
  Sys2Proof.Proofs.Orchestrator

/-! ## Nothing fires while both paths are voted off (R187, R198, R290) -/

/-- No trigger is pending, the timer is quiet and the relay pin is at shut off: with both votes, the common part of
`noEarlyFire` and `heldOff` (R340, R374). -/
def OutputsOff (s : State) : Prop := s.tr.pending = false ∧ timerQuiet s ∧ s.out.secN = true

/-- A reset votes both paths off and leaves the outputs off (R41, R371). -/
theorem resetCells_off (s : State) : bothShutOff (resetCells s) ∧ OutputsOff (resetCells s) :=
  ⟨⟨rfl, rfl⟩, rfl, resetCells_timerQuiet s, rfl⟩

/-- With the primary path voted off a `TRIAC` phase leaves no trigger and a quiet timer (R187). -/
theorem phaseTriac_cancels {s : State} (primary : s.sys.primaryShutoff = true) :
    (after phaseTriac s).tr.pending = false ∧ timerQuiet (after phaseTriac s) := by
  rw [phaseTriac_of_shutoff primary]
  exact ⟨rfl, cancelTrigger_timerQuiet (folded s)⟩

/-- While both paths are voted off every phase keeps the outputs off: `TRIAC` cancels, `OUTPUT` writes the vote to the
relay pin, and no other phase touches these cells (R187, R290). -/
theorem phaseProgram_outputsOff (pc : Fin 7) {s : State} (votes : bothShutOff s) (off : OutputsOff s) :
    OutputsOff (after (phaseProgram pc) s) := by
  obtain ⟨primary, secondary⟩ := votes
  obtain ⟨idle, quiet, pin⟩ := off
  by_cases triac : pc = 4
  · subst triac
    obtain ⟨idle, quiet⟩ := phaseTriac_cancels primary
    exact ⟨idle, quiet, (phaseTriac_out_secN s).trans pin⟩
  · refine ⟨(phaseProgram_pending triac s).trans idle, phaseProgram_timerQuiet triac quiet, ?_⟩
    by_cases output : pc = 5
    · subst output
      exact secondary
    · exact (phaseProgram_secN output s).trans pin

/-- So does every operation: the pulse handler, which alone could set the gate, is not enabled (R79, R198). -/
theorem exec_outputsOff {i : Instr} {s t : State} (h : exec i s = .next t) (votes : bothShutOff s)
    (off : OutputsOff s) : OutputsOff t := by
  cases exec_effect h with
  | phase pc _ _ result =>
    subst result
    exact phaseProgram_outputsOff pc votes off
  | tick _ _ result =>
    obtain ⟨idle, quiet, pin⟩ := off
    subst result
    exact ⟨idle, tickBody_timerQuiet quiet, pin⟩
  | tacho _ result =>
    rw [result, tachoHandler_spec]
    exact off
  | pulse op =>
    obtain ⟨-, quiet, -⟩ := off
    subst op
    cases (exec_irqPulse_of_timerQuiet quiet).symm.trans h
  | reset _ result =>
    subst result
    exact (resetCells_off s).2
  | idle _ result | input _ _ _ _ result =>
    subst result
    exact off

/-! ## Phase `DISPATCH` -/

/-- No phase leaves the control path (R287, R292). -/
theorem phaseDispatch_inControlPath {s : State} (inPath : inControlPath s) :
    inControlPath (after phaseDispatch s) := by
  by_cases runs : runCondition s
  · exact .inr (phaseDispatch_state_of_runs inPath runs)
  · exact .inl (phaseDispatch_state_of_stops inPath runs)

/-- The control path is no state before the first path check, and no `SelfTest`. -/
theorem not_selfTest_of_inControlPath {s : State} (inPath : inControlPath s) :
    s.sys.state ≠ .selfTest ∧ ¬ beforePathChecks s := by
  rcases inPath with state | state <;> simp [beforePathChecks, state]

/-- A `Startup` phase votes both paths off, and starts the self-test at its first stage if it starts it (R284). -/
theorem phaseDispatch_of_startup {s : State} (starting : s.sys.state = .startup) :
    bothShutOff (after phaseDispatch s) ∧ handedOver (after phaseDispatch s) := by
  obtain ⟨elapsed, waiting⟩ := dispatchStartup s starting
  cases delay : delayOver s with
  | true =>
    rw [phaseDispatch_of_exec (elapsed delay)]
    exact ⟨⟨rfl, rfl⟩, fun _ stage => by cases stage⟩
  | false =>
    rw [phaseDispatch_of_exec (waiting delay)]
    exact ⟨⟨rfl, rfl⟩, fun state => by cases starting.symm.trans state⟩

/-- The self-test is in its first stage only as long as it has not left it (R268). -/
theorem stage_of_stageNext_checkIdle {c : Cfg} {p : SelfTest} {spin : Bool} {now : Instant16}
    (first : (stageNext c p spin now).stage = .checkIdle) : p.stage = .checkIdle := by
  unfold stageNext at first
  split at first
  · split at first
    · cases first
    · split at first
      · cases stage : p.stage <;> rw [stage] at first <;> cases first
      · exact first
  · exact first

/-- Before the first path check a `DISPATCH` phase has voted both paths off, and was before it when it began (R271,
R284). -/
theorem beforePathChecks_of_phaseDispatch {s : State} (before : beforePathChecks (after phaseDispatch s)) :
    beforePathChecks s ∧ bothShutOff (after phaseDispatch s) := by
  have notInPath : ¬ inControlPath s := fun inPath =>
    (not_selfTest_of_inControlPath (phaseDispatch_inControlPath inPath)).2 before
  cases state : s.sys.state with
  | startup => exact ⟨.inl state, (phaseDispatch_of_startup state).1⟩
  | selfTest =>
    obtain ⟨post, reached⟩ := phaseDispatch_state_of_selfTest state
    have first : (stageAfter s).stage = .checkIdle := by
      rcases before with starting | ⟨-, stage⟩
      · rw [starting] at reached
        split at reached <;> cases reached
      · rwa [post] at stage
    refine ⟨.inr ⟨state, stage_of_stageNext_checkIdle first⟩, ?_⟩
    rw [phaseDispatch_of_exec (exec_dispatch_checkIdle state rfl first)]
    exact ⟨rfl, rfl⟩
  | syncing => exact absurd (.inl state) notInPath
  | running => exact absurd (.inr state) notInPath

/-- A `DISPATCH` phase never leaves `SelfTest` with the stage `Done`: it hands over in the call that enters it
(R270). -/
theorem phaseDispatch_handedOver (s : State) : handedOver (after phaseDispatch s) := by
  have ofPath (inPath : inControlPath s) : handedOver (after phaseDispatch s) := fun testing =>
    absurd testing (not_selfTest_of_inControlPath (phaseDispatch_inControlPath inPath)).1
  cases state : s.sys.state with
  | startup => exact (phaseDispatch_of_startup state).2
  | selfTest =>
    obtain ⟨post, reached⟩ := phaseDispatch_state_of_selfTest state
    intro testing done
    rw [testing, if_pos (by rwa [← post])] at reached
    cases reached
  | syncing => exact ofPath (.inl state)
  | running => exact ofPath (.inr state)

/-! ## Before the first path check (R374) -/

/-- Every operation keeps the outputs off before the first path check (R374). -/
theorem exec_noEarlyFire {i : Instr} {s t : State} (h : exec i s = .next t) (safe : noEarlyFire s) :
    noEarlyFire t := by
  intro before
  have keeps (beforeS : beforePathChecks s) (votes : bothShutOff t) : bothShutOff t ∧ OutputsOff t := by
    obtain ⟨votesS, off⟩ := safe beforeS
    exact ⟨votes, exec_outputsOff h votesS off⟩
  rcases exec_sys_post_cases h with ⟨-, sys, post⟩ | reset | ⟨sys, post⟩
  · rw [beforePathChecks, sys, post] at before
    obtain ⟨beforeS, votes⟩ := beforePathChecks_of_phaseDispatch before
    exact keeps beforeS (by rwa [bothShutOff, sys])
  · rw [exec_of_isReset h reset]
    exact resetCells_off s
  · rw [beforePathChecks, sys, post] at before
    obtain ⟨votes, -⟩ := safe before
    exact keeps before (by rwa [bothShutOff, sys])

/-- Every operation keeps the hand-over clause (R270). -/
theorem exec_handedOver {i : Instr} {s t : State} (h : exec i s = .next t) (handed : handedOver s) :
    handedOver t := by
  rcases exec_sys_post_cases h with ⟨-, sys, post⟩ | reset | ⟨sys, post⟩
  · rw [handedOver, sys, post]
    exact phaseDispatch_handedOver s
  · rw [exec_of_isReset h reset]
    exact fun testing => by cases testing
  · rwa [handedOver, sys, post]

/-- Settles O51: every operation keeps both parts, and taking a word touches none of their cells. -/
theorem noEarlyFireInvariant : Obligations.NoEarlyFireInvariant := by
  intro s t ⟨safe, handed⟩ h
  obtain ⟨-, w, rest, i, -, -, hexec⟩ := step_next_iff.mp h
  exact ⟨exec_noEarlyFire hexec safe, exec_handedOver hexec handed⟩

/-! ## A sticky fault (R340) -/

/-- No operation but a reset leaves the control path (R292). -/
theorem exec_inControlPath {i : Instr} {s t : State} (h : exec i s = .next t) (noReset : isReset i = false)
    (inPath : inControlPath s) : inControlPath t := by
  rcases exec_sys_post_cases h with ⟨-, sys, -⟩ | reset | ⟨sys, -⟩
  · rw [inControlPath, sys]
    exact phaseDispatch_inControlPath inPath
  · cases noReset.symm.trans reset
  · rwa [inControlPath, sys]

/-- A sticky fault outlasts every operation but a reset (R254, R273, R340). -/
theorem exec_latchedFault {i : Instr} {s t : State} (h : exec i s = .next t) (noReset : isReset i = false)
    (latched : latchedFault s) : latchedFault t := by
  rcases latched with ⟨tripped, inPath⟩ | ⟨failed, testing⟩
  · obtain ⟨config, -⟩ := exec_cfg_trace h
    exact .inl ⟨config ▸ exec_tripped h noReset tripped, exec_inControlPath h noReset inPath⟩
  · obtain ⟨testing, post⟩ := exec_keeps_error h noReset testing failed
    exact .inr ⟨by rwa [post], testing⟩

/-- A tripped monitor votes both paths off in the control path (R254, R289). -/
theorem phaseDispatch_bothShutOff_of_tripped {s : State} (inPath : inControlPath s)
    (tripped : s.cfg.dbLimit ≤ s.sf.count) : bothShutOff (after phaseDispatch s) := by
  have start : dbTripped (armedView s) = true := decide_eq_true tripped
  have decision : shutoffDecision (controlled s) = true := shutoffDecision_of_tripped (controlPath_tripped start _ _)
  obtain ⟨primary, secondary⟩ := controlPath_votes (nowOf s) (hkDue (nowOf s) (mainView s)) (armedView s)
  rw [phaseDispatch_eq_controlled inPath]
  exact ⟨primary.trans decision, secondary.trans decision⟩

/-- Under a sticky fault a `DISPATCH` phase votes both paths off (R271, R289, R340). -/
theorem phaseDispatch_bothShutOff {s : State} (latched : latchedFault s) : bothShutOff (after phaseDispatch s) := by
  rcases latched with ⟨tripped, inPath⟩ | ⟨failed, testing⟩
  · exact phaseDispatch_bothShutOff_of_tripped inPath tripped
  · rw [phaseDispatch_of_exec (exec_dispatch_of_error testing failed)]
    exact ⟨rfl, rfl⟩

/-- Under a sticky fault no operation takes back the votes (R340). -/
theorem exec_bothShutOff {i : Instr} {s t : State} (h : exec i s = .next t) (latched : latchedFault s)
    (votes : bothShutOff s) : bothShutOff t := by
  rcases exec_sys_post_cases h with ⟨-, sys, -⟩ | reset | ⟨sys, -⟩
  · rw [bothShutOff, sys]
    exact phaseDispatch_bothShutOff latched
  · rw [exec_of_isReset h reset]
    exact ⟨rfl, rfl⟩
  · rwa [bothShutOff, sys]

/-- Settles O52: the fault stays latched, the votes stand with it, and while they do the outputs stay off. -/
theorem stickyFaultHoldsOff : Obligations.StickyFaultHoldsOff := by
  intro i s t ⟨latched, votes, off⟩ h noReset
  exact ⟨exec_latchedFault h noReset latched, exec_bothShutOff h latched votes, exec_outputsOff h votes off⟩

/-- Settles O53: `DISPATCH` votes both paths off, `TRIAC` cancels on the primary vote, and `OUTPUT` writes the secondary
one to the relay pin; the fault stays latched throughout. -/
theorem stickyFaultShutsOff : Obligations.StickyFaultShutsOff := by
  intro s latched
  refine ⟨_, _, _, exec_dispatch s, exec_triac _, exec_output _, ?_⟩
  have latchedA := exec_latchedFault (exec_dispatch s) rfl latched
  have votesA := phaseDispatch_bothShutOff latched
  have latchedB := exec_latchedFault (exec_triac _) rfl latchedA
  have votesB := exec_bothShutOff (exec_triac _) latchedA votesA
  have ⟨primary, _⟩ := votesA
  obtain ⟨idle, quiet⟩ := phaseTriac_cancels primary
  have ⟨_, secondary⟩ := votesB
  refine ⟨exec_latchedFault (exec_output _) rfl latchedB, exec_bothShutOff (exec_output _) latchedB votesB, ?_⟩
  rw [phaseOutput_spec]
  exact ⟨idle, quiet, secondary⟩

/-! ## Right after reset (R370, R374) -/

/-- The reset state votes both paths off with the outputs off (R374). -/
theorem reset_off : bothShutOff State.reset ∧ OutputsOff State.reset :=
  ⟨⟨rfl, rfl⟩, rfl, ⟨rfl, rfl, rfl⟩, rfl⟩

/-- Confidence 0 is below the threshold, so there is no speed reading (R176). -/
theorem getSpeed_reset : getSpeed (mainView State.reset) = none := rfl

/-- Settles O16: the reset values of the cells named. -/
theorem resetStateIsSafe : Obligations.ResetStateIsSafe := by
  obtain ⟨votes, idle, ⟨-, -, gate⟩, relay⟩ := reset_off
  exact ⟨rfl, rfl, rfl, rfl, votes, gate, relay, idle, rfl, getSpeed_reset, rfl, rfl⟩

/-- Settles O55: a quiet timer meets the pulse engine's invariant, every counter starts at 0, and the outputs start
off. -/
theorem resetMeetsInvariants : Obligations.ResetMeetsInvariants := by
  have ⟨_, _, quiet, _⟩ := reset_off
  exact ⟨pulseEngineOk_of_timerQuiet quiet, ⟨Nat.zero_le _, Nat.zero_le _, Nat.zero_le _⟩, fun _ => reset_off,
    fun testing => by cases testing⟩

end Sys2Proof.Proofs.HeldOff
end

section
/-! SUPPORT. The time base and the watchdog (O9, O17), the input events (O10, O11), the latches (O12), the handlers
without effect (O13) and the halt (O14). -/

namespace Sys2Proof.Proofs.Environment

open Sys2Proof.Machine Sys2Proof.Safety Sys2Proof.Laws Sys2Proof.Proofs.Cells Sys2Proof.Proofs.Encoding
  Sys2Proof.Proofs.Instants

/-! ## `TICK` (R310) -/

/-- `TICK` before the watchdog has expired, as one update (R310). -/
theorem exec_tick_of_running {s : State} (running : s.wd.count < s.cfg.wdtTimeout) :
    exec .tick s = .next (after tickBody s) := by
  have enabled : tickEnabled s = true := decide_eq_true running
  rw [exec_tick, enabled]
  rfl

/-- `TICK` is refused once the watchdog has expired (R310, R342). -/
theorem exec_tick_of_expired {s : State} (expired : s.cfg.wdtTimeout ≤ s.wd.count) :
    exec .tick s = .refused .stepDisabled := exec_of_not_enabled (Nat.not_lt_of_le expired)

/-- Settles O9: the body of `TICK` is one update; the flag is set where the new counter is 0. -/
theorem tickResult : Obligations.TickResult := by
  refine fun s => ⟨fun running => ?_, exec_tick_of_expired⟩
  have done := exec_tick_of_running running
  obtain ⟨-, counter, overflow⟩ := exec_tick_clk done
  refine ⟨(after tickBody s).clk.tov, (after tickBody s).irq.pt, (after tickBody s).clk.tcnt, done, counter,
    overflow, ?_⟩
  rw [tickBody_spec]
  simp only [Bool.or_eq_true, Bool.and_eq_true, decide_eq_true_eq]

/-! ## The watchdog (R310, R342) -/

/-- A tick that completes raises the watchdog count by one and keeps the timeout (R310). -/
theorem tickBody_wd (s : State) :
    (after tickBody s).wd.count = s.wd.count + 1 ∧ (after tickBody s).cfg = s.cfg := ⟨rfl, rfl⟩

/-- One more tick, where the first is enabled. -/
theorem tickTimes_succ_of_running {s : State} (running : s.wd.count < s.cfg.wdtTimeout) (n : Nat) :
    tickTimes (n + 1) s = tickTimes n (after tickBody s) := by
  rw [tickTimes, exec_tick_of_running running]

/-- One more tick, where none is enabled. -/
theorem tickTimes_succ_of_expired {s : State} (expired : s.cfg.wdtTimeout ≤ s.wd.count) (n : Nat) :
    tickTimes (n + 1) s = .refused .stepDisabled := by
  rw [tickTimes, exec_tick_of_expired expired]

/-- Up to the timeout, ticks go on and raise the count one by one (R310). -/
theorem tickTimes_of_le {n : Nat} {s : State} (room : s.wd.count + n ≤ s.cfg.wdtTimeout) :
    ∃ t, tickTimes n s = .next t ∧ t.wd.count = s.wd.count + n ∧ t.cfg = s.cfg := by
  induction n generalizing s with
  | zero => exact ⟨s, rfl, rfl, rfl⟩
  | succ n ih =>
    obtain ⟨count, config⟩ := tickBody_wd s
    obtain ⟨t, others, total, same⟩ := ih (s := after tickBody s) (by rw [count, config]; omega)
    exact ⟨t, (tickTimes_succ_of_running (by omega) n).trans others, by omega, same.trans config⟩

/-- Past the timeout, the run of ticks is refused at the first one that is not enabled (R310). -/
theorem tickTimes_of_lt {n : Nat} {s : State} (bound : s.wd.count ≤ s.cfg.wdtTimeout)
    (past : s.cfg.wdtTimeout < s.wd.count + n) : tickTimes n s = .refused .stepDisabled := by
  induction n generalizing s with
  | zero => omega
  | succ n ih =>
    obtain ⟨count, config⟩ := tickBody_wd s
    by_cases running : s.wd.count < s.cfg.wdtTimeout
    · rw [tickTimes_succ_of_running running]
      exact ih (by rw [count, config]; omega) (by rw [count, config]; omega)
    · exact tickTimes_succ_of_expired (Nat.le_of_not_lt running) n

/-- No phase but `WDT` writes the watchdog's cells (R291). -/
theorem phaseProgram_wd {pc : Fin 7} (notWdt : pc ≠ 6) (s : State) : (after (phaseProgram pc) s).wd = s.wd := by
  match pc with
  | 0 | 1 | 2 | 5 => rfl
  | 3 => exact phaseDispatch_wd s
  | 4 => exact phaseTriac_wd s
  | 6 => exact absurd rfl notWdt

/-- Only a `WDT` phase and a reset lower the watchdog count (R291, R310). -/
theorem exec_wd_count_ge {i : Instr} {s t : State} (h : exec i s = .next t) (noReset : isReset i = false)
    (noPoke : ¬ performs 6 i s) : s.wd.count ≤ t.wd.count := by
  cases exec_effect h with
  | phase pc _ performed result =>
    have notWdt : pc ≠ 6 := by
      rintro rfl
      exact noPoke performed
    subst result
    exact Nat.le_of_eq (congrArg Watchdog.count (phaseProgram_wd notWdt s)).symm
  | tick _ _ result =>
    subst result
    exact Nat.le_succ _
  | tacho _ result => rw [result, tachoHandler_wd]
  | pulse _ result => rw [result, pulseHandler_wd]
  | idle _ result => rw [result]
  | input _ _ _ _ result => rw [result]
  | reset op => cases noReset.symm.trans op

/-- Settles O17: the run of ticks on both sides of the timeout, and the operations that could lower the count. -/
theorem watchdogExpiresOnTime : Obligations.WatchdogExpiresOnTime := by
  refine ⟨fun s n bound => ⟨fun room => ?_, tickTimes_of_lt bound⟩, fun _ _ _ => exec_wd_count_ge⟩
  obtain ⟨t, run, count, config⟩ := tickTimes_of_le room
  refine ⟨t, run, count, fun atTimeout => ?_⟩
  have expired : t.cfg.wdtTimeout ≤ t.wd.count := by rw [config, count, atTimeout]
  exact ⟨expired, Nat.not_lt_of_le expired⟩

/-! ## The input events (R311 to R315) -/

/-- Settles O10: each event is one access of ENV. -/
theorem inputEvents : Obligations.InputEvents := by
  refine fun level s => ⟨?_, ?_, ?_, ?_⟩
  · rw [exec_envMains, after_updateInputs]
  · rw [exec_envRtfault, after_updateInputs]
  · rw [exec_envTacho, after_access, performAccess_requestTacho]
  · rw [exec_envAfeFail, after_updateInputs]

/-- The channels after a conversion of channel `ch` (R313). -/
def convert (ch : Fin 5) (code : AdcCode) (adc : Vector (Option AdcCode) 5) : Vector (Option AdcCode) 5 :=
  adc.set ch (some code)

/-- The converted channel holds the code (R313). -/
theorem convert_same (ch : Fin 5) (code : AdcCode) (adc : Vector (Option AdcCode) 5) :
    (convert ch code adc)[ch] = some code := Vector.getElem_set_self ch.isLt

/-- Every other channel is as it was (R313). -/
theorem convert_other {ch k : Fin 5} (other : k ≠ ch) (code : AdcCode) (adc : Vector (Option AdcCode) 5) :
    (convert ch code adc)[k] = adc[k] :=
  Vector.getElem_set_ne ch.isLt k.isLt fun same => other (Fin.ext same.symm)

/-- The five conversion events, by channel (R94, R313). -/
theorem exec_conversion {code : AdcCode} {k : Fin 5} {i : Instr}
    (row : (k, i) ∈ [((0 : Fin 5), Instr.envAdcSetpoint code), (1, .envAdcShunt0 code), (2, .envAdcShunt1 code),
      (3, .envAdcMottemp code), (4, .envAdcDietemp code)]) (s : State) :
    exec i s = .next { s with inp := { s.inp with adc := convert k code s.inp.adc } } := by
  simp only [List.mem_cons, List.not_mem_nil, or_false, Prod.mk.injEq] at row
  rcases row with ⟨rfl, rfl⟩ | ⟨rfl, rfl⟩ | ⟨rfl, rfl⟩ | ⟨rfl, rfl⟩ | ⟨rfl, rfl⟩ <;> rfl

/-- Settles O11: a conversion sets its own channel (`exec_conversion`), and a set slot is no other slot. -/
theorem conversionsStored : Obligations.ConversionsStored := fun code s k _ row =>
  ⟨convert k code s.inp.adc, exec_conversion row s, convert_same k code _, fun _ other => convert_other other code _⟩

/-! ## The latches (R313, R314, R341) -/

/-- What no operation but a reset takes back: the failure flag, the halt, and that a channel has a result. -/
def LatchesKept (s t : State) : Prop :=
  (s.inp.afeFailure = true → t.inp.afeFailure = true) ∧ (s.wd.halted = true → t.wd.halted = true) ∧
    ∀ k : Fin 5, s.inp.adc[k] ≠ none → t.inp.adc[k] ≠ none

/-- Where the inputs and the halt stand, the latches do. -/
theorem latchesKept_of_same {s t : State} (inp : t.inp = s.inp) (halted : t.wd.halted = s.wd.halted) :
    LatchesKept s t := by
  rw [LatchesKept, inp, halted]
  exact ⟨id, id, fun _ => id⟩

/-- A conversion gives its channel a result and takes none from another (R313). -/
theorem latchesKept_of_conversion {s t : State} {ch : Fin 5} {code : AdcCode}
    (result : t = { s with inp := { s.inp with adc := convert ch code s.inp.adc } }) : LatchesKept s t := by
  subst result
  refine ⟨id, id, fun k present => ?_⟩
  by_cases same : k = ch
  · subst same
    exact (convert_same k code s.inp.adc).trans_ne (Option.some_ne_none code)
  · exact (convert_other same code s.inp.adc).trans_ne present

/-- No agent but ENV and WATCHDOG writes an input or the halt (R20). -/
theorem exec_latchesKept_of_other {i : Instr} {s t : State} (h : exec i s = .next t) (noReset : isReset i = false)
    (agent : i.agent ≠ .env) : LatchesKept s t := by
  cases hagent : i.agent with
  | env => exact absurd hagent agent
  | watchdog => cases noReset.symm.trans (isReset_of_watchdog hagent)
  | main =>
    obtain ⟨p, rfl⟩ := exec_eq_after (congrArg contextOf hagent) h
    obtain ⟨inp, -, halted, -⟩ := after_main_frame p s
    exact latchesKept_of_same inp halted
  | irq =>
    obtain ⟨p, rfl⟩ := exec_eq_after (congrArg contextOf hagent) h
    obtain ⟨inp, wd, -⟩ := after_irq_frame p s
    exact latchesKept_of_same inp (congrArg Watchdog.halted wd)
  | timebase =>
    obtain ⟨p, rfl⟩ := exec_eq_after (congrArg contextOf hagent) h
    obtain ⟨inp, -, halted, -⟩ := after_timebase_frame p s
    exact latchesKept_of_same inp halted

/-- ENV writes levels, sets flags and stores results, but for its reset (R311 to R315, R341). -/
theorem exec_latchesKept_of_env {i : Instr} {s t : State} (h : exec i s = .next t) (noReset : isReset i = false)
    (agent : i.agent = .env) : LatchesKept s t := by
  cases i with
  | por => cases noReset
  | envMains | envTacho | envRtfault =>
    cases h
    exact ⟨id, id, fun _ => id⟩
  | envAfeFail =>
    cases h
    exact ⟨fun _ => rfl, id, fun _ => id⟩
  | halt =>
    cases h
    exact ⟨id, fun _ => rfl, fun _ => id⟩
  | envAdcSetpoint code | envAdcShunt0 code | envAdcShunt1 code | envAdcMottemp code | envAdcDietemp code =>
    exact latchesKept_of_conversion (Host.Outcome.next.inj h).symm
  | _ => cases agent

/-- Settles O12: ENV takes no latch back, and the other agents write none. -/
theorem latchesUntilReset : Obligations.LatchesUntilReset := by
  intro i s t h noReset
  by_cases agent : i.agent = .env
  · exact exec_latchesKept_of_env h noReset agent
  · exact exec_latchesKept_of_other h noReset agent

/-! ## The handlers without effect and the halt (R337, R338, R341) -/

/-- Settles O13: both handlers are the bare guard on the halt. -/
theorem idleHandlers : Obligations.IdleHandlers := by
  intro s
  rw [exec_irqMains, exec_irqUart]
  refine ⟨fun running => ?_, fun halted => ?_⟩
  · rw [running]
    exact ⟨rfl, rfl⟩
  · rw [halted]
    exact ⟨rfl, rfl⟩

/-- The state after `HALT` (R341). -/
def haltedState (s : State) : State := { s with wd := { s.wd with halted := true } }

/-- The operations that ask for a core that is not halted (R84, R334). -/
def needsCore : List Instr := [.mainStep, .irqMains, .irqTacho, .irqPulse, .irqUart]

/-- None of them is enabled after `HALT` (R341). -/
theorem not_enabledWhen_haltedState {i : Instr} (core : i ∈ needsCore) (s : State) :
    ¬ enabledWhen i (haltedState s) := by
  simp only [needsCore, List.mem_cons, List.not_mem_nil, or_false] at core
  rcases core with rfl | rfl | rfl | rfl | rfl <;> simp [enabledWhen, haltedState]

/-- No other operation asks for the halt (R84, R341). -/
theorem enabledWhen_haltedState_iff {i : Instr} (noCore : i ∉ needsCore) (s : State) :
    enabledWhen i (haltedState s) ↔ enabledWhen i s := by
  cases i with
  | mainStep | irqMains | irqTacho | irqPulse | irqUart => exact absurd (by decide) noCore
  | _ => exact Iff.rfl

/-- Settles O14: what is enabled after `HALT`, by the enabling conditions, which ask for the halt in five rows alone. -/
theorem haltStopsCore : Obligations.HaltStopsCore := fun s =>
  ⟨haltedState s, exec_halt s, rfl, fun _ core => exec_of_not_enabled (not_enabledWhen_haltedState core s),
    fun _ noCore _ enabled => exec_of_enabled ((enabledWhen_haltedState_iff noCore s).mpr enabled),
    exec_tick_of_expired (s := haltedState s)⟩

end Sys2Proof.Proofs.Environment
end
